-- ==== Sys2Proof/Word.lean ====
section
/-! DEFINITION. The unit of every frame and record: the byte. All other quantities of the PX3 are exact integers with
stated ranges (R1), kept as `Nat` and `Int`; their rounding, clamping and saturation stand in Machine/Arith.lean. -/

namespace Sys2Proof

/-- One byte of a frame, a request payload or a record (R196). -/
abbrev Byte := BitVec 8

end Sys2Proof
end

