-- ==== Sys2Proof/Machine/Arith.lean ====
section
/-! DEFINITION. The arithmetic conventions of R1: rounding, clamping, saturation and wrapping on exact integers; the
integer square root of R53 and the exact sector of a direction of R52. -/

namespace Sys2Proof.Machine

/-- `Rnd(x, d)` (R1): the quotient rounded to the nearest integer, halves away from zero. -/
def rnd (x : Int) (d : Nat) : Int :=
  if 0 ≤ x then (2 * x + d) / (2 * d) else -((2 * (-x) + d) / (2 * d))

/-- The ceiling of a quotient of naturals (R1). -/
def ceilDiv (n d : Nat) : Nat := (n + (d - 1)) / d

/-- `x` clamped to ±`l` (R1). -/
def clampAbs (l : Nat) (x : Int) : Int := max (-(l : Int)) (min (l : Int) x)

/-- A count that saturates at `top` (R1), increased by `k`. -/
def satAdd (top n k : Nat) : Nat := min top (n + k)

/-- The largest 32-bit count. -/
def count32 : Nat := 4294967295

/-- A 32-bit count that saturates, increased by 1. -/
def inc32 (n : Nat) : Nat := satAdd count32 n 1

/-- A 32-bit count that wraps (R1). -/
def wrap32 (n : Nat) : Nat := n % 4294967296

/-- A chainage that stays at the ends of its 32-bit signed range (R70). -/
def satChainage (x : Int) : Int := max (-2147483648) (min 2147483647 x)

/-- The integer square root with one base-4 digit of `n` for each unit of fuel. -/
def isqrtAux : Nat → Nat → Nat
  | 0, _ => 0
  | fuel + 1, n =>
    let r := 2 * isqrtAux fuel (n / 4)
    if (r + 1) * (r + 1) ≤ n then r + 1 else r

/-- The whole part of the square root (R53). -/
def isqrt (n : Nat) : Nat := isqrtAux (Nat.log2 n / 2 + 1) n

/-- The quadrant of a direction, each with the axis that starts it: 0 from +y, 1 from +z, 2 from −y, 3 from −z. -/
def quadrant (y z : Int) : Nat :=
  if 0 < y ∧ 0 ≤ z then 0
  else if y ≤ 0 ∧ 0 < z then 1
  else if y < 0 ∧ z ≤ 0 then 2
  else 3

/-- One further binary digit of the sector for each doubling of the direction's angle: (y + iz)² has twice the angle, and
the parity of its quadrant is the digit. -/
def sectorDigits : Nat → Int → Int → Nat → Nat
  | 0, _, _, acc => acc
  | k + 1, y, z, acc =>
    let y' := y * y - z * z
    let z' := 2 * y * z
    sectorDigits k y' z' (2 * acc + quadrant y' z' % 2)

/-- The sector of a point with offsets (dy, dz) from the envelope centre (R52), decided exactly on the integers: the
quadrant gives 32 sectors, and five doublings the rest. -/
def sectorOf (dy dz : Int) : Nat := sectorDigits 5 dy dz (quadrant dy dz)

/-- The lowest-numbered field found out of its range (R170), from pairs of a field number and whether the field is in
range, in the order of the fields. -/
def firstBad : List (Nat × Bool) → Option Nat
  | [] => none
  | (n, good) :: rest => if good then firstBad rest else some n

/-- Whether `x` lies in `lo..hi` (R1). -/
def inRange (lo hi x : Int) : Bool := decide (lo ≤ x) && decide (x ≤ hi)

end Sys2Proof.Machine
end

