-- ==== Sys2Proof/Machine/Bytes.lean ====
section
/-! DEFINITION. Numbers as bytes, least significant byte first (R196), and the two CRCs of R197. -/

namespace Sys2Proof.Machine

/-- The `w` low bytes of `n`, least significant first (R196). -/
def leBytes : Nat → Nat → List Byte
  | 0, _ => []
  | w + 1, n => BitVec.ofNat 8 n :: leBytes w (n / 256)

/-- The number that bytes spell, least significant first (R196). -/
def leNat : List Byte → Nat
  | [] => 0
  | b :: bs => b.toNat + 256 * leNat bs

/-- An unsigned number carried at width `w`, saturating at the width's largest value (R196). -/
def encU (w n : Nat) : List Byte := leBytes w (min n (256 ^ w - 1))

/-- A signed number carried at width `w` in two's complement (R196); it saturates at both ends of the width (log 16). -/
def encI (w : Nat) (x : Int) : List Byte :=
  let half : Int := 256 ^ w / 2
  let clamped := max (-half) (min (half - 1) x)
  leBytes w (clamped % (256 ^ w : Nat)).toNat

/-- A yes-or-no item or a flag at width 1 (R196). -/
def encB (b : Bool) : List Byte := encU 1 (if b then 1 else 0)

/-- An item that may be absent: a presence byte, then the value, sent as 0 when absent (R196). -/
def encOpt (w : Nat) (x : Option Nat) : List Byte :=
  match x with
  | some n => encB true ++ encU w n
  | none => encB false ++ encU w 0

/-- The unsigned field of width `w` at offset `off` of a payload. -/
def fieldU (off w : Nat) (payload : List Byte) : Nat := leNat ((payload.drop off).take w)

/-- The signed field of width `w` at offset `off` of a payload, in two's complement (R196). -/
def fieldI (off w : Nat) (payload : List Byte) : Int :=
  let n := fieldU off w payload
  if 2 * n < 256 ^ w then (n : Int) else (n : Int) - (256 ^ w : Nat)

/-- The unsigned fields of width `w` that follow one another from offset `off`, `k` of them. -/
def fieldsU (off w k : Nat) (payload : List Byte) : List Nat :=
  (List.range k).map fun i => fieldU (off + w * i) w payload

/-- The signed fields of width `w` that follow one another from offset `off`, `k` of them. -/
def fieldsI (off w k : Nat) (payload : List Byte) : List Int :=
  (List.range k).map fun i => fieldI (off + w * i) w payload

/-- One bit of CRC-16: generator 1021 hexadecimal, not reflected (R197). -/
def crc16Bits : Nat → BitVec 16 → BitVec 16
  | 0, r => r
  | k + 1, r => crc16Bits k (if r.msb then (r <<< 1) ^^^ 0x1021#16 else r <<< 1)

/-- CRC-16 of bytes from register `r`. -/
def crc16From (r : BitVec 16) : List Byte → BitVec 16
  | [] => r
  | b :: bs => crc16From (crc16Bits 8 (r ^^^ (b.zeroExtend 16 <<< 8))) bs

/-- CRC-16 (R197): initial value FFFF, no final inversion. -/
def crc16 (bytes : List Byte) : BitVec 16 := crc16From 0xFFFF#16 bytes

/-- One bit of CRC-32: generator 04C11DB7 hexadecimal, reflected (R197). -/
def crc32Bits : Nat → BitVec 32 → BitVec 32
  | 0, r => r
  | k + 1, r => crc32Bits k (if r.getLsbD 0 then (r >>> 1) ^^^ 0xEDB88320#32 else r >>> 1)

/-- CRC-32 of bytes from register `r`. -/
def crc32From (r : BitVec 32) : List Byte → BitVec 32
  | [] => r
  | b :: bs => crc32From (crc32Bits 8 (r ^^^ b.zeroExtend 32)) bs

/-- CRC-32 (R197): initial value FFFFFFFF, bits reflected, final inversion. -/
def crc32 (bytes : List Byte) : BitVec 32 := crc32From 0xFFFFFFFF#32 bytes ^^^ 0xFFFFFFFF#32

/-- What a frame's CRC is computed over: kind, length and payload in the order sent (R197). -/
def crcInput (kind : Byte) (payload : List Byte) : List Byte :=
  kind :: (leBytes 2 payload.length ++ payload)

/-- The CRC-16 of a head frame (R197). -/
def headCrc (kind : Byte) (payload : List Byte) : BitVec 16 := crc16 (crcInput kind payload)

/-- The CRC-32 of a trunk frame (R197). -/
def trunkCrc (kind : Byte) (payload : List Byte) : BitVec 32 := crc32 (crcInput kind payload)

/-- A head frame as sent (R197). -/
def headFrame (kind : Byte) (payload : List Byte) : List Byte :=
  [171, 205] ++ crcInput kind payload ++ leBytes 2 (headCrc kind payload).toNat

/-- A trunk frame as sent (R197). -/
def trunkFrame (kind : Byte) (payload : List Byte) : List Byte :=
  [90, 195] ++ crcInput kind payload ++ leBytes 4 (trunkCrc kind payload).toNat

end Sys2Proof.Machine
end

