-- ==== Sys2Proof/Syntax.lean ====
section
/-! DEFINITION. The commands: one constructor of `Instr` for each row of spec/opcode_table.json, in the table's order,
and the types of their operands. -/

namespace Sys2Proof

/-- A head port, its link and its head (R20: HP0, HP1, HP2). -/
inductive HeadId where
  | h0 | h1 | h2
  deriving DecidableEq, Repr

/-- A wheel encoder (R61). -/
inductive Wheel where
  | a | b
  deriving DecidableEq, Repr

/-- What the part's lines show when power is applied: the carrier of each head link (R37) and of the trunk link (R151),
and the levels of the encoder lines, true for high (R61, log 5). -/
structure PowerLines where
  head0 : Bool
  head1 : Bool
  head2 : Bool
  trunk : Bool
  a1 : Bool
  a2 : Bool
  b1 : Bool
  b2 : Bool
  deriving DecidableEq, Repr

/-- The commands. The takings of requests carry no operand: the request taken is the oldest of the intake (R168). -/
inductive Instr where
  | powerOn (lines : PowerLines)
  | resetInput
  | headCarrierLoss (p : HeadId)
  | headCarrierGain (p : HeadId)
  | headFrameTooLong (p : HeadId)
  | headFrameDiscarded (p : HeadId) (kind : Byte) (payload : List Byte) (crc : BitVec 16)
  | slice (p : HeadId) (payload : List Byte)
  | headStatus (p : HeadId) (payload : List Byte)
  | silenceTimerExpiry (p : HeadId)
  | encoderTransition (w : Wheel) (phase1 phase2 : Bool)
  | odometryIntervalExpiry
  | markerDetection
  | closeTimerExpiry (station : Nat)
  | alertHoldExpiry
  | headLossTimerExpiry
  | linkLossTimerExpiry
  | trunkLinkDown
  | trunkLinkUp
  | transmissionComplete
  | trunkFrameTooLong
  | trunkFrameDiscarded (kind : Byte) (payload : List Byte) (crc : BitVec 32)
  | request (tag kind : Byte) (payload : List Byte)
  | badKind
  | identify
  | setTime
  | readStatus
  | readTable
  | stageOpen
  | stagePart
  | stageCommit
  | stageDiscard
  | configureHead
  | setMask
  | setOdometry
  | setRouteBase
  | writeRouteEntry
  | clearRouteEntry
  | eraseEnvelope
  | mapCells
  | unmapCells
  | addMarker
  | removeMarker
  | setRunParameters
  | arm
  | start
  | stop
  | resetRun
  | setLevelFloor
  | ackFault
  | timebaseAdvance
  deriving DecidableEq, Repr

end Sys2Proof
end

