-- ==== Sys2Proof/Machine/State.lean ====
section
/-! DEFINITION. The state of the PX3 as plain data: one structure for each block of 00_scope.md's block overview, every
item the rules name, the records the part builds, and the state after power-on and reset. -/

namespace Sys2Proof.Machine

/-- One value for each head (R20). -/
structure PerHead (α : Type) where
  h0 : α
  h1 : α
  h2 : α
  deriving DecidableEq, Repr

/-- A timer (R18): stopped, or the microseconds it still has to run. It can expire when none remain (log 4). -/
abbrev Timer := Option Nat

/-! ### Run Control (01_survey_runs.md) -/

/-- The run states (R2). -/
inductive RunState where
  | unarmed | armed | running | draining | ended | halted
  deriving DecidableEq, Repr

/-- The run direction (R1, R5). -/
inductive Direction where
  | up | down
  deriving DecidableEq, Repr

/-- The sixteen run parameters in the order of their field numbers (R5). -/
structure RunParams where
  direction : Direction := .up
  origin : Int := 0
  pitch : Nat := 1000
  closeLag : Nat := 1
  closeTimeout : Nat := 100
  defaultCentre : Nat := 0
  guardDistance : Nat := 100000
  bogieCentres : Nat := 1000
  vehicleLength : Nat := 1000
  alertDepth : Nat := 0
  alertHold : Nat := 1000
  highCode : Nat := 1
  panicCode : Nat := 2
  hysteresisCode : Nat := 1
  headLossLimit : Nat := 2000
  linkLossLimit : Nat := 3000
  deriving DecidableEq, Repr

/-- The run counters (R4). -/
structure RunCounters where
  profilesClosed : Nat := 0
  profilesDropped : Nat := 0
  pointsDropped : Nat := 0
  eventsDropped : Nat := 0
  intrusionsDropped : Nat := 0
  markersMatched : Nat := 0
  markersMissed : Nat := 0
  markersUnknown : Nat := 0
  deriving DecidableEq, Repr

/-- Run Control (R2 to R5, R18). -/
structure RunControl where
  runState : RunState := .unarmed
  runNumber : Nat := 0
  startTime : Option Nat := none
  counters : RunCounters := {}
  params : RunParams := {}
  paramsSet : Bool := false
  timebase : Nat := 0
  deriving DecidableEq, Repr

/-! ### Head Ports (02_scanner_head_ports.md) -/

/-- The port states (R23). -/
inductive PortState where
  | down | disabled | waiting | streaming | silent | faulted
  deriving DecidableEq, Repr

/-- The condition of a HEAD STATUS frame (section 2.2). -/
inductive Condition where
  | ok | warn | fault
  deriving DecidableEq, Repr

/-- The condition and fault code of the last good HEAD STATUS (section 2.3). -/
structure LastStatus where
  condition : Condition
  code : Nat
  deriving DecidableEq, Repr

/-- The record of one port (section 2.3, R33, R37). -/
structure Port where
  state : PortState := .down
  classCode : Nat := 0
  enable : Bool := false
  yh : Int := 0
  zh : Int := 0
  phi : Nat := 0
  silenceTimeout : Nat := 50
  expected : Option Nat := none
  revolution : Option Nat := none
  gapReported : Bool := false
  silence : Timer := none
  warn : Bool := false
  lastStatus : Option LastStatus := none
  crcBad : Nat := 0
  malformed : Nat := 0
  unsynced : Nat := 0
  gaps : Nat := 0
  jumps : Nat := 0
  accepted : Nat := 0
  passedOn : Nat := 0
  carrierLosses : Nat := 0
  deriving DecidableEq, Repr

/-- One sample of a slice: raw range count and intensity (section 2.2). -/
structure Sample where
  raw : Nat
  intensity : Nat
  deriving DecidableEq, Repr

/-- What a slice that is passed on carries (R32). -/
structure PassedSlice where
  head : HeadId
  revolution : Nat
  start : Nat
  samples : List Sample
  arrival : Nat
  chainage : Int
  warn : Bool
  gap : Bool
  deriving DecidableEq, Repr

/-! ### Sample Corrector (03_sample_correction_and_projection.md) -/

/-- A calibration table (R57). -/
structure Calibration where
  defined : Bool := false
  knots : List Int := List.replicate 17 0
  intensityFloor : Nat := 0
  deriving DecidableEq, Repr

/-- The Corrector's state for one head (R39); bit b of the mask is block b. -/
structure Corrector where
  calibration : Calibration := {}
  mask : BitVec 64 := 0
  examined : Nat := 0
  accepted : Nat := 0
  noReturn : Nat := 0
  saturated : Nat := 0
  weak : Nat := 0
  occluded : Nat := 0
  invalid : Nat := 0
  centre : Nat := 0
  far : Nat := 0
  deriving DecidableEq, Repr

/-- The reasons for which a sample is discarded (R42, R46, R51, R53). -/
inductive SampleDiscard where
  | noReturn | saturated | weak | occluded | invalid | centre | far
  deriving DecidableEq, Repr

/-- An accepted sample: its sector and radius (R52, R53), its point and its intensity (R49). -/
structure CorrectedPoint where
  sector : Nat
  radius : Nat
  y : Int
  z : Int
  intensity : Nat
  deriving DecidableEq, Repr

/-- The course of a sample (R41). -/
inductive SampleResult where
  | discarded (reason : SampleDiscard)
  | accepted (point : CorrectedPoint)
  deriving DecidableEq, Repr

/-! ### Odometry Unit (04_chainage_and_odometry.md) -/

/-- The state of a wheel (R60). -/
inductive WheelStatus where
  | present | lost
  deriving DecidableEq, Repr

/-- What the Odometry Unit holds for one wheel (R60), with the levels of its two encoder lines (R61, log 6). -/
structure WheelRecord where
  phase1 : Bool := false
  phase2 : Bool := false
  pending : Int := 0
  illegal : Nat := 0
  remainder : Nat := 0
  status : WheelStatus := .present
  silentTravel : Nat := 0
  deriving DecidableEq, Repr

/-- The modes of the slip filter (R60). -/
inductive FilterMode where
  | normal | slip
  deriving DecidableEq, Repr

/-- The published odometry modes, in order of severity (R68). -/
inductive OdoMode where
  | normal | slip | single
  deriving DecidableEq, Repr

/-- The levels of the camera line (R77). -/
inductive LineLevel where
  | idle | active
  deriving DecidableEq, Repr

/-- The camera line (R77): its level, and the model's own count of the pulses it has given since power-on (log 22). -/
structure CameraLine where
  level : LineLevel := .idle
  pulses : Nat := 0
  deriving DecidableEq, Repr

/-- The twelve odometry settings in the order of their field numbers (R80). -/
structure OdoSettings where
  scaleA : Nat := 0
  scaleB : Nat := 0
  interval : Nat := 2
  weight : Nat := 3
  slipThreshold : Nat := 20
  lossDistance : Nat := 20000
  slewLimit : Nat := 10
  captureWindow : Nat := 5000
  reversalTolerance : Nat := 200
  recalEnable : Bool := false
  recalBaseline : Nat := 1000000
  cameraPitch : Nat := 0
  deriving DecidableEq, Repr

/-- The unit's own copy of a marker's position and label (R74). -/
structure MarkerRef where
  position : Int
  label : Nat
  deriving DecidableEq, Repr

/-- The Odometry Unit (R60, R80), with the camera line that it drives (R77). -/
structure Odometry where
  a : WheelRecord := {}
  b : WheelRecord := {}
  agreement : Nat := 0
  slipFilter : Nat := 0
  filterMode : FilterMode := .normal
  mode : OdoMode := .normal
  c : Int := 0
  h : Int := 0
  r : Int := 0
  u : Int := 0
  reversed : Bool := false
  debounce : Option Nat := none
  lastMatched : Option MarkerRef := none
  cameraNext : Nat := 1
  cameraFrames : Nat := 0
  camera : CameraLine := {}
  taken : Nat := 0
  debounced : Nat := 0
  ignored : Nat := 0
  interval : Timer := some 2000
  settings : OdoSettings := {}
  deriving DecidableEq, Repr

/-! ### Route Map (05_the_route_map.md) -/

/-- The zones of a route entry (R87). -/
inductive Zone where
  | assess | noAssess
  deriving DecidableEq, Repr

/-- A route entry (R87). -/
structure RouteEntry where
  defined : Bool := false
  envelope : Nat := 0
  radius : Int := 0
  margin : Nat := 0
  zone : Zone := .assess
  alertEnable : Bool := false
  references : Nat := 0
  deriving DecidableEq, Repr

/-- An envelope (R90): its limits in sector order. -/
structure Envelope where
  defined : Bool := false
  centreHeight : Nat := 0
  limits : List Nat := List.replicate 128 0
  deriving DecidableEq, Repr

/-- The run status of a marker (R97). -/
inductive MarkerStatus where
  | unseen | matched | missed
  deriving DecidableEq, Repr

/-- A marker (R97). -/
structure Marker where
  position : Int
  label : Nat
  status : MarkerStatus
  deriving DecidableEq, Repr

/-- The Route Map (R84). `cells`, `entries` and `envelopes` are canonical tables: indices strictly rising, no entry equal
to the value an unlisted index reads as, which is its power-on value. -/
structure RouteMap where
  base : Int := 0
  cells : List (Nat × Option Nat) := []
  entries : List (Nat × RouteEntry) := []
  envelopes : List (Nat × Envelope) := []
  markers : List Marker := []
  deriving DecidableEq, Repr

/-- What a lookup that reaches an entry copies (R101, R102). -/
structure EntryCopy where
  cell : Nat
  entry : Nat
  envelope : Nat
  radius : Int
  margin : Nat
  zone : Zone
  alertEnable : Bool
  centreHeight : Nat
  deriving DecidableEq, Repr

/-- The answer of a lookup (R101). -/
inductive RouteCopy where
  | outside
  | unmappedCell (cell : Nat)
  | entry (e : EntryCopy)
  deriving DecidableEq, Repr

/-! ### Profile Assembler (06_profile_assembly.md) -/

/-- A sector accumulator (R109). -/
structure SectorAcc where
  count : Nat := 0
  minRadius : Option Nat := none
  heads : PerHead Bool := ⟨false, false, false⟩
  deriving DecidableEq, Repr

/-- What a context holds of one head (R108). -/
structure HeadTally where
  slices : Nat := 0
  first : Option Nat := none
  last : Option Nat := none
  deriving DecidableEq, Repr

/-- An open context (R108). `sectors` is a canonical table of the 128 accumulators. -/
structure Context where
  station : Nat
  centre : Int
  openTime : Nat
  timer : Timer
  copy : RouteCopy
  worst : OdoMode := .normal
  warnSeen : Bool := false
  gapSeen : Bool := false
  tallies : PerHead HeadTally := ⟨{}, {}, {}⟩
  sectors : List (Nat × SectorAcc) := []
  deriving DecidableEq, Repr

/-- The discard counts of one head (R107). -/
structure SliceDiscards where
  reversed : Nat := 0
  beforeStart : Nat := 0
  late : Nat := 0
  deriving DecidableEq, Repr

/-- The Profile Assembler (R107); the contexts in increasing station order. -/
structure Assembler where
  contexts : List Context := []
  closedLine : Nat := 0
  sequence : Nat := 0
  lastStation : PerHead (Option Nat) := ⟨none, none, none⟩
  discards : PerHead SliceDiscards := ⟨{}, {}, {}⟩
  deriving DecidableEq, Repr

/-- The reason flags of a closure (R114). -/
inductive CloseReason where
  | forced | timedOut | early | drained | aborted
  deriving DecidableEq, Repr

/-- The flags of a profile: the reason flag, the content flags (R117) and the Comparator flags (R132). -/
structure ProfileFlags where
  reason : Option CloseReason := none
  unmapped : Bool := false
  noAssess : Bool := false
  slip : Bool := false
  single : Bool := false
  headWarn : Bool := false
  gap : Bool := false
  sparse : Bool := false
  intruded : Bool := false
  marginal : Bool := false
  alerting : Bool := false
  moreRuns : Bool := false
  fullRing : Bool := false
  deriving DecidableEq, Repr

/-- A closed profile as handed to the Comparator (R118): the context, and what its closure decided. -/
structure ClosedProfile where
  ctx : Context
  sequence : Nat
  reason : Option CloseReason
  sparse : Bool
  closeTime : Nat
  frames : Nat
  deriving DecidableEq, Repr

/-! ### Clearance Comparator (07_clearance_assessment.md) -/

/-- The sector classes, in order of severity (R131). -/
inductive SectorClass where
  | void | unassessed | clear | near | intrusion
  deriving DecidableEq, Repr

/-- One sector as assessed (R131). -/
structure AssessedSector where
  sector : Nat
  cls : SectorClass
  margin : Option Int
  acc : SectorAcc
  deriving DecidableEq, Repr

/-- An intrusion run (R134); depth and deepest radius exact, in dmm. -/
structure IntrusionRun where
  first : Nat
  last : Nat
  count : Nat
  depth : Nat
  deepest : Nat
  deepestRadius : Nat
  deriving DecidableEq, Repr

/-- The closure that last started or restarted the hold timer (R126). -/
structure AlertClosure where
  sequence : Nat
  station : Nat
  deriving DecidableEq, Repr

/-- The Clearance Comparator (R126); `alertLine` true is ASSERTED and drives the alert output. -/
structure Comparator where
  alertLine : Bool := false
  hold : Timer := none
  lastAlert : Option AlertClosure := none
  assessed : Nat := 0
  intruding : Nat := 0
  assertions : Nat := 0
  deriving DecidableEq, Repr

/-! ### Records (08_outbound_records_and_the_trunk_queue.md, section 11.4) -/

/-- The header of a PROFILE record (R136), values exact. -/
structure ProfileHeader where
  sequence : Nat
  station : Nat
  flags : ProfileFlags
  openTime : Nat
  closeTime : Nat
  frames : Nat
  slices : PerHead Nat
  spans : PerHead Nat
  entry : Option Nat
  envelope : Option Nat
  inner : Nat
  outer : Nat
  leastMargin : Option Int
  leastSector : Option Nat
  runCount : Nat
  maxDepth : Option Nat
  voidCount : Nat
  nearCount : Nat
  intrusionCount : Nat
  deriving DecidableEq, Repr

/-- A sector entry of the full form (R137). -/
structure SectorEntry where
  minRadius : Option Nat
  count : Nat
  cls : SectorClass
  heads : PerHead Bool
  deriving DecidableEq, Repr

/-- A group entry of the compact form (R137). -/
structure GroupEntry where
  minRadius : Option Nat
  cls : SectorClass
  count : Nat
  deriving DecidableEq, Repr

/-- The three forms of a PROFILE record (R144). -/
inductive ProfileForm where
  | full | compact | summary
  deriving DecidableEq, Repr

/-- What the Comparator gives the queue for every form (R135 to R137). -/
structure ProfileContent where
  header : ProfileHeader
  sectors : List SectorEntry
  groups : List GroupEntry
  deriving DecidableEq, Repr

/-- What follows the header in each form (R137). -/
inductive ProfileBody where
  | full (sectors : List SectorEntry)
  | compact (groups : List GroupEntry)
  | summary
  deriving DecidableEq, Repr

/-- A kept point (R155). -/
structure PointEntry where
  y : Int
  z : Int
  intensity : Nat
  deriving DecidableEq, Repr

/-- A POINTS record (R155); `count` is the slice's sample count n. -/
structure PointsRecord where
  head : HeadId
  level : Nat
  revolution : Nat
  start : Nat
  count : Nat
  arrival : Nat
  chainage : Int
  points : List PointEntry
  deriving DecidableEq, Repr

/-- An INTRUSION record (R138): `runs` are the runs reported. -/
structure IntrusionRecord where
  sequence : Nat
  station : Nat
  closeTime : Nat
  frames : Nat
  entry : Option Nat
  envelope : Option Nat
  runCount : Nat
  maxDepth : Option Nat
  fullRing : Bool
  moreRuns : Bool
  alerting : Bool
  runs : List IntrusionRun
  deriving DecidableEq, Repr

/-- The kinds of event and fault, in the order of their codes (R200). -/
inductive EventKind where
  | sliceMalformed | gap | headSilent | headFault | headWarn | wheelLost | slip | reversal | unknownMarker
  | repeatMarker | missedMarker | recalRefused | recalibrated | profileDropped | alert | headsLost | linkLost
  | intrusionLost
  deriving DecidableEq, Repr

/-- The detail of an event, kind by kind (R200). -/
inductive EventDetail where
  | sliceMalformed (start count revolution : Nat)
  | gap (expected start revolution : Nat)
  | headSilent (revolution expected : Nat)
  | headFault (code : Nat) (temperature : Int)
  | headWarn (code : Nat) (temperature : Int)
  | wheelLost (silent : Nat) (other : WheelStatus)
  | slip (f d : Nat) (dA dB : Int)
  | reversal (h : Int) (behind : Nat)
  | unknownMarker (window : Nat)
  | repeatMarker (position : Int) (label : Nat) (status : MarkerStatus)
  | missedMarker (position : Int) (label : Nat) (h : Int)
  | recalRefused (label delta : Nat) (u : Int) (oldA oldB : Nat) (candidates : Option (Nat × Nat))
  | recalibrated (label delta : Nat) (u : Int) (oldA oldB newA newB : Nat)
  | profileDropped (sequence station level dataOccupancy : Nat)
  | alert (sequence station entry maxDepth runCount : Nat)
  | headsLost (station : Option Nat) (limit : Nat) (states : PerHead PortState)
  | linkLost (station : Option Nat) (limit occupancy : Nat)
  | intrusionLost (station sequence runCount maxDepth : Nat)
  deriving DecidableEq, Repr

/-- The sources of events and faults (R184, R196). -/
inductive Source where
  | port (p : HeadId)
  | wheel (w : Wheel)
  | odometry | outboundQueue | headPorts | trunkLink | comparator
  deriving DecidableEq, Repr

/-- An EVENT record (R200). -/
structure EventRecord where
  source : Source
  time : Nat
  chainage : Int
  detail : EventDetail
  deriving DecidableEq, Repr

/-- The status codes (R171). -/
inductive Status where
  | ok | badKind | malformed | badValue | state | frozen | tooLate | inUse | noEntry | noEnvelope | conflict | full
  | incomplete | notStaged
  deriving DecidableEq, Repr

/-- A RESPONSE record (R170, R198). -/
structure ResponseRecord where
  tag : Byte
  kind : Byte
  status : Status
  time : Nat
  takenCount : Nat
  payload : List Byte
  deriving DecidableEq, Repr

/-- The reasons of a RUN_END record (R12). -/
inductive EndReason where
  | stopped | halted
  deriving DecidableEq, Repr

/-- A RUN_END record (R12). -/
structure RunEndRecord where
  runNumber : Nat
  reason : EndReason
  haltFault : Option EventKind
  startTime : Option Nat
  endTime : Nat
  lastSequence : Option Nat
  counters : RunCounters
  finalC : Int
  finalH : Int
  deriving DecidableEq, Repr

/-- The records of the queue (R144). -/
inductive Record where
  | profile (header : ProfileHeader) (body : ProfileBody)
  | points (r : PointsRecord)
  | intrusion (r : IntrusionRecord)
  | event (r : EventRecord)
  | response (r : ResponseRecord)
  | runEnd (r : RunEndRecord)
  deriving DecidableEq, Repr

/-! ### Outbound Queue and Trunk Transmitter (08_outbound_records_and_the_trunk_queue.md) -/

/-- The two classes of record, each with its list (R144). -/
inductive RecordClass where
  | control | data
  deriving DecidableEq, Repr

/-- The queue's counters (R163). -/
structure QueueCounters where
  transmitted : Nat := 0
  formsFull : Nat := 0
  formsCompact : Nat := 0
  formsSummary : Nat := 0
  profileDropped : Nat := 0
  pointsKept : Nat := 0
  pointsDropped : Nat := 0
  eventLost : Nat := 0
  intrusionLost : Nat := 0
  txAbandoned : Nat := 0
  dataDiscarded : Nat := 0
  deriving DecidableEq, Repr

/-- The Outbound Queue and Trunk Transmitter (R145). The record in transmission is the oldest of its list (R149), so
`sending` names the list. -/
structure Outbound where
  control : List Record := []
  data : List Record := []
  sending : Option RecordClass := none
  linkUp : Bool := false
  level : Nat := 0
  floor : Nat := 0
  keep : PerHead Nat := ⟨0, 0, 0⟩
  holder : List Record := []
  responseClaim : Nat := 0
  counters : QueueCounters := {}
  deriving DecidableEq, Repr

/-! ### Management Unit (09_management_requests.md) -/

/-- A request waiting in the intake (R166). -/
structure Request where
  tag : Byte
  kind : Byte
  payload : List Byte
  deriving DecidableEq, Repr

/-- The target of the staging record (R172). -/
inductive StagingTarget where
  | envelope (id : Nat)
  | calibration (h : HeadId)
  deriving DecidableEq, Repr

/-- The content of a staged part (R172): 32 limits, with the centre height in part 0, or the knots and floor. -/
inductive PartData where
  | limits (centre : Option Nat) (limits : List Nat)
  | knots (knots : List Int) (intensityFloor : Nat)
  deriving DecidableEq, Repr

/-- An open staging record (R173): the filled parts in index order. -/
structure Staging where
  target : StagingTarget
  parts : List (Nat × PartData) := []
  deriving DecidableEq, Repr

/-- The last request answered (R167). -/
structure LastTaken where
  tag : Byte
  kind : Byte
  status : Status
  deriving DecidableEq, Repr

/-- The Management Unit (R167). -/
structure Management where
  intake : List Request := []
  staging : Option Staging := none
  lastTaken : Option LastTaken := none
  framesReceived : Nat := 0
  crcBad : Nat := 0
  malformed : Nat := 0
  dropped : Nat := 0
  taken : Nat := 0
  refused : Nat := 0
  deriving DecidableEq, Repr

/-! ### Fault Capture (10_faults_and_degraded_operation.md) -/

/-- A fault record (R184): the detail numbers of R185 and R187, 0 where a kind has one number only (R200). -/
structure FaultRecord where
  kind : EventKind
  source : Source
  time : Nat
  chainage : Int
  station : Option Nat
  detail1 : Int
  detail2 : Int
  deriving DecidableEq, Repr

/-- A capture slot (R182). -/
structure Slot where
  record : Option FaultRecord := none
  lock : Bool := false
  lost : Nat := 0
  deriving DecidableEq, Repr

/-- Fault Capture (R182). -/
structure FaultCapture where
  hard : Slot := {}
  soft : Slot := {}
  hardReported : Nat := 0
  softReported : Nat := 0
  headLoss : Timer := none
  linkLoss : Timer := none
  deriving DecidableEq, Repr

/-! ### The machine -/

/-- The whole state. `choices` and `pending` are the model's own: the count of free choices made (log 7) and the commands
that are waiting, first in first out (log 2). The defaults are the power-on values. -/
structure State where
  run : RunControl := {}
  ports : PerHead Port := ⟨{}, {}, {}⟩
  correctors : PerHead Corrector := ⟨{}, {}, {}⟩
  odo : Odometry := {}
  route : RouteMap := {}
  assembler : Assembler := {}
  comparator : Comparator := {}
  queue : Outbound := {}
  mgmt : Management := {}
  faults : FaultCapture := {}
  choices : Nat := 0
  pending : List Instr := []
  deriving DecidableEq, Repr

/-- Why the machine stops. It has no constructor: the specification gives every command an effect in every state, and
none stops the part, so no fault is ever raised. -/
inductive Fault where
  deriving DecidableEq, Repr

/-- Why a command has no meaning. -/
inductive Refusal where
  /-- The command of this mnemonic has no meaning yet. Raised by no arm of `exec`. Safe: a stop proves nothing false. -/
  | notModelled (mnemonic : String)
  deriving DecidableEq, Repr

/-- The machine right after power-on or the reset input, with no carrier on any link (R2 to R5, R18, R37, R39, R60, R77,
R80, R84, R107, R126, R145, R167, R173, R182) and no command waiting. -/
def State.reset : State := {}

end Sys2Proof.Machine
end

