-- ==== Sys2Proof/Machine/Ops.lean ====
section
/-! DEFINITION. The named operations over the state: values held per head, the canonical tables of the Route Map and of a
context's sectors, timers, the predicates on the run state that the rules share, and the replacement of one block. -/

namespace Sys2Proof.Machine

/-! ### Values per head -/

/-- The value of a head. -/
def PerHead.get {α : Type} (t : PerHead α) : HeadId → α
  | .h0 => t.h0
  | .h1 => t.h1
  | .h2 => t.h2

/-- The values with that of one head replaced. -/
def PerHead.set {α : Type} (t : PerHead α) (p : HeadId) (x : α) : PerHead α :=
  match p with
  | .h0 => { t with h0 := x }
  | .h1 => { t with h1 := x }
  | .h2 => { t with h2 := x }

/-- A function applied to the value of each head. -/
def PerHead.map {α β : Type} (f : α → β) (t : PerHead α) : PerHead β := ⟨f t.h0, f t.h1, f t.h2⟩

/-- The values in the order of the heads. -/
def PerHead.toList {α : Type} (t : PerHead α) : List α := [t.h0, t.h1, t.h2]

/-- The head of a number (R20), where there is one. -/
def headOf : Nat → Option HeadId
  | 0 => some .h0
  | 1 => some .h1
  | 2 => some .h2
  | _ => none

/-! ### Canonical tables: an unlisted index reads as the default -/

/-- The value of an index. -/
def tableGet {α : Type} (d : α) : List (Nat × α) → Nat → α
  | [], _ => d
  | (k, x) :: rest, i => if k = i then x else tableGet d rest i

/-- The table with the value of an index replaced; writing the default removes the entry, so equal tables are equal lists. -/
def tableSet {α : Type} [DecidableEq α] (d : α) : List (Nat × α) → Nat → α → List (Nat × α)
  | [], i, x => if x = d then [] else [(i, x)]
  | (k, y) :: rest, i, x =>
    if i < k then (if x = d then (k, y) :: rest else (i, x) :: (k, y) :: rest)
    else if i = k then (if x = d then rest else (i, x) :: rest)
    else (k, y) :: tableSet d rest i x

/-- The canonical form: indices strictly rising, and no entry equal to the default. -/
abbrev tableWf {α : Type} [DecidableEq α] (d : α) (t : List (Nat × α)) : Prop :=
  t.Pairwise (fun a b => a.1 < b.1) ∧ ∀ e ∈ t, e.2 ≠ d

/-- The table with a function applied to every listed value. -/
def tableMap {α : Type} [DecidableEq α] (d : α) (f : α → α) (t : List (Nat × α)) : List (Nat × α) :=
  (t.map fun e => (e.1, f e.2)).filter fun e => decide (e.2 ≠ d)

/-! ### Timers (R18, log 4) -/

/-- A timer started or restarted for a duration in milliseconds (R1, R18). -/
def startMs (ms : Nat) : Timer := some (1000 * ms)

/-- A timer after one more microsecond; a stopped timer stays stopped. -/
def tickTimer (t : Timer) : Timer := t.map fun r => r - 1

/-- Whether a timer's expiry can be taken: it runs and no microsecond remains (log 4). -/
def timerExpires (t : Timer) : Bool := t == some 0

/-! ### The run state -/

/-- The freeze is in force (R16). -/
def frozen : RunState → Bool
  | .armed => true
  | .running => true
  | .draining => true
  | .unarmed => false
  | .ended => false
  | .halted => false

/-- Odometry integrates, and a hard fault halts (R62, R187). -/
def inSurvey : RunState → Bool
  | .running => true
  | .draining => true
  | .unarmed => false
  | .armed => false
  | .ended => false
  | .halted => false

/-- Whether `x` is beyond `y` in the run direction (R1). -/
def beyond (d : Direction) (x y : Int) : Bool :=
  match d with
  | .up => decide (y < x)
  | .down => decide (x < y)

/-! ### Replacing one block -/

/-- The state with Run Control replaced. -/
def State.withRun (s : State) (x : RunControl) : State := { s with run := x }

/-- The state with the ports replaced. -/
def State.withPorts (s : State) (x : PerHead Port) : State := { s with ports := x }

/-- The state with the Corrector's records replaced. -/
def State.withCorrectors (s : State) (x : PerHead Corrector) : State := { s with correctors := x }

/-- The state with the Odometry Unit replaced. -/
def State.withOdo (s : State) (x : Odometry) : State := { s with odo := x }

/-- The state with the Route Map replaced. -/
def State.withRoute (s : State) (x : RouteMap) : State := { s with route := x }

/-- The state with the Profile Assembler replaced. -/
def State.withAssembler (s : State) (x : Assembler) : State := { s with assembler := x }

/-- The state with the Clearance Comparator replaced. -/
def State.withComparator (s : State) (x : Comparator) : State := { s with comparator := x }

/-- The state with the Outbound Queue replaced. -/
def State.withQueue (s : State) (x : Outbound) : State := { s with queue := x }

/-- The state with the Management Unit replaced. -/
def State.withMgmt (s : State) (x : Management) : State := { s with mgmt := x }

/-- The state with Fault Capture replaced. -/
def State.withFaults (s : State) (x : FaultCapture) : State := { s with faults := x }

/-- The state with the count of free choices replaced (log 7). -/
def State.withChoices (s : State) (x : Nat) : State := { s with choices := x }

/-- The state with one port replaced. -/
def State.withPort (s : State) (p : HeadId) (x : Port) : State := s.withPorts (s.ports.set p x)

/-- The state with the Corrector's record of one head replaced. -/
def State.withCorrector (s : State) (p : HeadId) (x : Corrector) : State :=
  s.withCorrectors (s.correctors.set p x)

/-- The state with the run counters replaced (R4). -/
def State.withCounters (s : State) (x : RunCounters) : State := s.withRun { s.run with counters := x }

/-- Whether some port is STREAMING (R119, R188). -/
def anyStreaming (ports : PerHead Port) : Bool := ports.toList.any fun p => p.state == .streaming

end Sys2Proof.Machine
end

