-- ==== Sys2Proof/Machine/Operands.lean ====
section
/-! DEFINITION. The operand forms: the head class table (R20), the payloads of SLICE and HEAD STATUS (R197), and the
coded fields that requests carry (R196). -/

namespace Sys2Proof.Machine

/-- A row of the head class table (R20): samples per revolution N, angle step, range unit, largest valid raw count. -/
structure HeadClass where
  samples : Nat
  step : Nat
  unit : Nat
  maxRaw : Nat
  deriving DecidableEq, Repr

/-- The head class table (R20). A code without a row, which no enabled port holds (R35), gives zeros (log 26). -/
def headClass : Nat → HeadClass
  | 1 => ⟨2048, 32, 10, 15000⟩
  | 2 => ⟨4096, 16, 10, 15000⟩
  | 3 => ⟨4096, 16, 5, 30000⟩
  | 4 => ⟨8192, 8, 5, 30000⟩
  | 5 => ⟨8192, 8, 2, 60000⟩
  | 6 => ⟨16384, 4, 2, 60000⟩
  | _ => ⟨0, 0, 0, 0⟩

/-- The longest head frame payload (R21). -/
def headPayloadLimit : Nat := 774

/-- The largest payload of a request (R165). -/
def requestPayloadLimit : Nat := 1024

/-- The fields of a SLICE payload (R197); a field that the frame does not hold reads as 0. -/
structure SliceFields where
  revolution : Nat
  start : Nat
  count : Nat
  deriving DecidableEq, Repr

/-- A field of width 2 at an offset, 0 unless the payload holds it whole (R197). -/
def heldField (off : Nat) (payload : List Byte) : Nat :=
  if off + 2 ≤ payload.length then fieldU off 2 payload else 0

/-- The fields of a SLICE payload (R197). -/
def sliceFields (payload : List Byte) : SliceFields :=
  ⟨heldField 0 payload, heldField 2 payload, heldField 4 payload⟩

/-- The samples of a SLICE payload, sample i at offset 6 + 3i (R197). -/
def sliceSamples (count : Nat) (payload : List Byte) : List Sample :=
  (List.range count).map fun i => ⟨fieldU (6 + 3 * i) 2 payload, fieldU (8 + 3 * i) 1 payload⟩

/-- Whether the last three rows of R22 that discard a SLICE leave it: n in 1..256, the payload length that of n samples, and
start + n not above N. -/
def sliceGood (n : Nat) (f : SliceFields) (payload : List Byte) : Bool :=
  decide (6 ≤ payload.length) && decide (1 ≤ f.count) && decide (f.count ≤ 256)
    && decide (payload.length = 6 + 3 * f.count) && decide (f.start + f.count ≤ n)

/-- The condition of a code (R196). -/
def conditionOf : Nat → Option Condition
  | 0 => some .ok
  | 1 => some .warn
  | 2 => some .fault
  | _ => none

/-- A yes-or-no field: 0 or 1, any other code out of range (R196). -/
def flagOf : Nat → Option Bool
  | 0 => some false
  | 1 => some true
  | _ => none

/-- The direction of a code (R196). -/
def directionOf : Nat → Option Direction
  | 0 => some .up
  | 1 => some .down
  | _ => none

/-- The zone of a code (R196). -/
def zoneOf : Nat → Option Zone
  | 0 => some .assess
  | 1 => some .noAssess
  | _ => none

end Sys2Proof.Machine
end

