-- ==== Sys2Proof/Decode.lean ====
section
/-! DEFINITION. How bytes name commands. The opcode table gives its rows no bits, so no word spells a command (log 23). The
bytes on a head link and on the inbound trunk side do: the receivers of R21 and R165 cut them into frames (R197), and each
frame is one command. The frames that a sender builds are `headFrame` and `trunkFrame`. -/

namespace Sys2Proof

open Sys2Proof.Machine

/-- The command that a word of the opcode table spells: none, since no row has bits (log 23). -/
def decodeTableWord (_nbits _w : Nat) : Option Instr := none

/-- The command that a whole head frame is (R22): a SLICE or a HEAD STATUS with a matching CRC-16, else a frame to discard. -/
def headCommand (p : HeadId) (kind : Byte) (payload : List Byte) (crc : BitVec 16) : Instr :=
  if crc = headCrc kind payload ∧ kind = 1#8 then .slice p payload
  else if crc = headCrc kind payload ∧ kind = 2#8 then .headStatus p payload
  else .headFrameDiscarded p kind payload crc

/-- The command that a whole inbound trunk frame is (R165): a request, or a frame to discard. -/
def trunkCommand (kind : Byte) (payload : List Byte) (crc : BitVec 32) : Instr :=
  match payload with
  | tag :: code :: rest =>
    if crc = trunkCrc kind payload ∧ kind = 32#8 then .request tag code rest else .trunkFrameDiscarded kind payload crc
  | [] => .trunkFrameDiscarded kind payload crc
  | [_] => .trunkFrameDiscarded kind payload crc

/-- A head receiver over bytes in order of arrival (R21), one step for each unit of fuel: a byte that starts no sync is passed
over; a length above the limit discards the frame, and the search goes on after the length field; a frame that has not
arrived whole gives nothing yet. -/
def receiveHeadFrom (p : HeadId) : Nat → List Byte → List Instr
  | 0, _ => []
  | fuel + 1, bytes =>
    match bytes with
    | 171#8 :: 205#8 :: kind :: l0 :: l1 :: rest =>
      let n := leNat [l0, l1]
      if headPayloadLimit < n then .headFrameTooLong p :: receiveHeadFrom p fuel rest
      else if rest.length < n + 2 then []
      else
        headCommand p kind (rest.take n) (BitVec.ofNat 16 (fieldU n 2 rest)) :: receiveHeadFrom p fuel (rest.drop (n + 2))
    | _ :: rest => receiveHeadFrom p fuel rest
    | [] => []

/-- The commands that the bytes of a head link are (R21). -/
def receiveHead (p : HeadId) (bytes : List Byte) : List Instr := receiveHeadFrom p bytes.length bytes

/-- The trunk receiver over inbound bytes in order of arrival (R165), one step for each unit of fuel. -/
def receiveTrunkFrom : Nat → List Byte → List Instr
  | 0, _ => []
  | fuel + 1, bytes =>
    match bytes with
    | 90#8 :: 195#8 :: kind :: l0 :: l1 :: rest =>
      let n := leNat [l0, l1]
      if requestPayloadLimit + 2 < n then .trunkFrameTooLong :: receiveTrunkFrom fuel rest
      else if rest.length < n + 4 then []
      else
        trunkCommand kind (rest.take n) (BitVec.ofNat 32 (fieldU n 4 rest)) :: receiveTrunkFrom fuel (rest.drop (n + 4))
    | _ :: rest => receiveTrunkFrom fuel rest
    | [] => []

/-- The commands that the inbound bytes of the trunk link are (R165). -/
def receiveTrunk (bytes : List Byte) : List Instr := receiveTrunkFrom bytes.length bytes

end Sys2Proof
end

