-- ==== Sys2Proof/Machine/Flags.lean ====
section
/-! DEFINITION. Every coded value: the positions of the profile and intrusion flags (R199), the codes of the named values
(R196), of the statuses (R198) and of the events (R200), and the orders of severity of R68 and R131. -/

namespace Sys2Proof.Machine

/-- The value of a flag at a position. -/
def flagAt (position : Nat) (b : Bool) : Nat := if b then 2 ^ position else 0

/-- The position of a reason flag (R199). -/
def reasonPosition : CloseReason → Nat
  | .forced => 0
  | .timedOut => 1
  | .early => 2
  | .drained => 3
  | .aborted => 4

/-- The value of the reason flag: 0 for a closure by progress (R114, R199). -/
def reasonBits : Option CloseReason → Nat
  | none => 0
  | some r => 2 ^ reasonPosition r

/-- The flags field of the PROFILE header (R199). -/
def profileFlagBits (f : ProfileFlags) : Nat :=
  reasonBits f.reason + flagAt 5 f.unmapped + flagAt 6 f.noAssess + flagAt 7 f.slip + flagAt 8 f.single
    + flagAt 9 f.headWarn + flagAt 10 f.gap + flagAt 11 f.sparse + flagAt 12 f.intruded + flagAt 13 f.marginal
    + flagAt 14 f.alerting + flagAt 15 f.moreRuns + flagAt 16 f.fullRing

/-- The flags byte of the INTRUSION record (R199). -/
def intrusionFlagBits (fullRing moreRuns alerting : Bool) : Nat :=
  flagAt 0 fullRing + flagAt 1 moreRuns + flagAt 2 alerting

/-- The codes of the run states (R196). -/
def runStateCode : RunState → Nat
  | .unarmed => 0
  | .armed => 1
  | .running => 2
  | .draining => 3
  | .ended => 4
  | .halted => 5

/-- The codes of the port states (R196). -/
def portStateCode : PortState → Nat
  | .down => 0
  | .disabled => 1
  | .waiting => 2
  | .streaming => 3
  | .silent => 4
  | .faulted => 5

/-- The codes of the head conditions (R196). -/
def conditionCode : Condition → Nat
  | .ok => 0
  | .warn => 1
  | .fault => 2

/-- The codes of the odometry modes (R196). -/
def odoModeCode : OdoMode → Nat
  | .normal => 0
  | .slip => 1
  | .single => 2

/-- The filter mode as R83 reports it. R196 has no row for it; the model's choice is the code of the odometry mode of the same
name (log 34, DESIGN CHOICE). -/
def filterModeCode : FilterMode → Nat
  | .normal => 0
  | .slip => 1

/-- The codes of the wheel states (R196). -/
def wheelStatusCode : WheelStatus → Nat
  | .present => 0
  | .lost => 1

/-- The codes of the marker run statuses (R196). -/
def markerStatusCode : MarkerStatus → Nat
  | .unseen => 0
  | .matched => 1
  | .missed => 2

/-- The codes of the directions (R196). -/
def directionCode : Direction → Nat
  | .up => 0
  | .down => 1

/-- The codes of the zones (R196). -/
def zoneCode : Zone → Nat
  | .assess => 0
  | .noAssess => 1

/-- The codes of the sector classes (R196), which rise with their severity (R131). -/
def sectorClassCode : SectorClass → Nat
  | .void => 0
  | .unassessed => 1
  | .clear => 2
  | .near => 3
  | .intrusion => 4

/-- The more severe of two odometry modes, NORMAL < SLIP < SINGLE (R68). -/
def worseMode (x y : OdoMode) : OdoMode := if odoModeCode x < odoModeCode y then y else x

/-- The more severe of two sector classes (R131). -/
def worseClass (x y : SectorClass) : SectorClass := if sectorClassCode x < sectorClassCode y then y else x

/-- A head's number (R20). -/
def headNumber : HeadId → Nat
  | .h0 => 0
  | .h1 => 1
  | .h2 => 2

/-- The codes of the staging target kinds (R196). -/
def targetKindCode : StagingTarget → Nat
  | .envelope _ => 1
  | .calibration _ => 2

/-- The id of a staging target (R172). -/
def targetId : StagingTarget → Nat
  | .envelope id => id
  | .calibration h => headNumber h

/-- The codes of the RUN_END reasons (R196). -/
def endReasonCode : EndReason → Nat
  | .stopped => 1
  | .halted => 2

/-- The codes of the fault sources (R196). -/
def sourceCode : Source → Nat
  | .port p => headNumber p
  | .wheel .a => 3
  | .wheel .b => 4
  | .odometry => 5
  | .outboundQueue => 6
  | .headPorts => 7
  | .trunkLink => 8
  | .comparator => 9

/-- The status codes (R198). -/
def statusCode : Status → Nat
  | .ok => 0
  | .badKind => 1
  | .malformed => 2
  | .badValue => 3
  | .state => 4
  | .frozen => 5
  | .tooLate => 6
  | .inUse => 7
  | .noEntry => 8
  | .noEnvelope => 9
  | .conflict => 10
  | .full => 11
  | .incomplete => 12
  | .notStaged => 13

/-- The event kind codes (R200). -/
def eventKindCode : EventKind → Nat
  | .sliceMalformed => 1
  | .gap => 2
  | .headSilent => 3
  | .headFault => 4
  | .headWarn => 5
  | .wheelLost => 6
  | .slip => 7
  | .reversal => 8
  | .unknownMarker => 9
  | .repeatMarker => 10
  | .missedMarker => 11
  | .recalRefused => 12
  | .recalibrated => 13
  | .profileDropped => 14
  | .alert => 15
  | .headsLost => 16
  | .linkLost => 17
  | .intrusionLost => 18

/-- The kind of an event's detail (R200). -/
def eventKind : EventDetail → EventKind
  | .sliceMalformed _ _ _ => .sliceMalformed
  | .gap _ _ _ => .gap
  | .headSilent _ _ => .headSilent
  | .headFault _ _ => .headFault
  | .headWarn _ _ => .headWarn
  | .wheelLost _ _ => .wheelLost
  | .slip _ _ _ _ => .slip
  | .reversal _ _ => .reversal
  | .unknownMarker _ => .unknownMarker
  | .repeatMarker _ _ _ => .repeatMarker
  | .missedMarker _ _ _ => .missedMarker
  | .recalRefused _ _ _ _ _ _ => .recalRefused
  | .recalibrated _ _ _ _ _ _ _ => .recalibrated
  | .profileDropped _ _ _ _ => .profileDropped
  | .alert _ _ _ _ _ => .alert
  | .headsLost _ _ _ => .headsLost
  | .linkLost _ _ _ => .linkLost
  | .intrusionLost _ _ _ _ => .intrusionLost

/-- Three port states packed into one number (R200): port 0 in the least significant byte. -/
def packedStates (p : PerHead PortState) : Nat :=
  portStateCode p.h0 + 256 * portStateCode p.h1 + 65536 * portStateCode p.h2

/-- The station that a fault record takes from a fault's detail (R185, R187). -/
def faultStation : EventDetail → Option Nat
  | .profileDropped _ station _ _ => some station
  | .headsLost station _ _ => station
  | .linkLost station _ _ => station
  | .intrusionLost station _ _ _ => some station
  | _ => none

/-- The first detail number of a fault record (R185, R187). -/
def faultDetail1 : EventDetail → Int
  | .sliceMalformed start _ _ => start
  | .gap expected _ _ => expected
  | .headSilent revolution _ => revolution
  | .headFault code _ => code
  | .headWarn code _ => code
  | .wheelLost silent _ => silent
  | .slip f _ _ _ => f
  | .reversal _ behind => behind
  | .unknownMarker window => window
  | .repeatMarker _ label _ => label
  | .missedMarker _ label _ => label
  | .recalRefused label _ _ _ _ _ => label
  | .recalibrated label _ _ _ _ _ _ => label
  | .profileDropped sequence _ _ _ => sequence
  | .alert sequence _ _ _ _ => sequence
  | .headsLost _ limit _ => limit
  | .linkLost _ limit _ => limit
  | .intrusionLost _ sequence _ _ => sequence

/-- The second detail number of a fault record (R185, R187), 0 where the kind has one number only (R200). -/
def faultDetail2 : EventDetail → Int
  | .sliceMalformed _ count _ => count
  | .gap _ start _ => start
  | .headSilent _ expected => expected
  | .headFault _ temperature => temperature
  | .headWarn _ temperature => temperature
  | .repeatMarker _ _ status => markerStatusCode status
  | .headsLost _ _ states => packedStates states
  | .linkLost _ _ occupancy => occupancy
  | _ => 0

end Sys2Proof.Machine
end

