-- ==== Sys2Proof/Machine/Formats.lean ====
section
/-! DEFINITION. The outbound records as the part builds them: their class and size (R144), and their byte layouts
(section 11.4: R198 for RESPONSE, R199, R200). -/

namespace Sys2Proof.Machine

/-- A record's class (R144). -/
def recordClass : Record → RecordClass
  | .profile _ _ => .data
  | .points _ => .data
  | .intrusion _ => .control
  | .event _ => .control
  | .response _ => .control
  | .runEnd _ => .control

/-- The size of a PROFILE record in each form (R144). -/
def formSize : ProfileForm → Nat
  | .full => 560
  | .compact => 176
  | .summary => 48

/-- The form of a profile body (R137). -/
def bodyForm : ProfileBody → ProfileForm
  | .full _ => .full
  | .compact _ => .compact
  | .summary => .summary

/-- A record's size in bytes against the queue (R144). -/
def recordSize : Record → Nat
  | .profile _ body => formSize (bodyForm body)
  | .points r => 24 + 7 * r.points.length
  | .intrusion r => 24 + 8 * r.runs.length
  | .event _ => 32
  | .response r => 16 + r.payload.length
  | .runEnd _ => 64

/-- The frame kind of a record (R197). -/
def recordKind : Record → Nat
  | .profile _ (.full _) => 1
  | .profile _ (.compact _) => 2
  | .profile _ .summary => 3
  | .points _ => 4
  | .intrusion _ => 5
  | .event _ => 6
  | .response _ => 7
  | .runEnd _ => 8

/-- A margin or depth as carried: clamped to ±32,767 (R135), the absent margin as −32,768 (R199). -/
def encMargin : Option Int → List Byte
  | some m => encI 2 (clampAbs 32767 m)
  | none => encI 2 (-32768)

/-- A depth as carried: clamped to 32,767 (R135). -/
def encDepth (d : Nat) : List Byte := encU 2 (min d 32767)

/-- A maximum depth as carried; the absent one is 0 (R199). -/
def encMaxDepth (d : Option Nat) : List Byte := encDepth (d.getD 0)

/-- A radius as carried: in millimetres (R135), the absent one 65,535 (R199). -/
def encRadius : Option Nat → List Byte
  | some r => encU 2 (r / 10)
  | none => encU 2 65535

/-- An entry index as carried, the absent one 65,535 (R199). -/
def encEntry (e : Option Nat) : List Byte := encU 2 (e.getD 65535)

/-- An envelope id or sector as carried, the absent one 255 (R199). -/
def encId (e : Option Nat) : List Byte := encU 1 (e.getD 255)

/-- A station index as carried, the absent one 4,294,967,295 (R199). -/
def encStation (s : Option Nat) : List Byte := encU 4 (s.getD count32)

/-- A head set, member h at position h (R196). -/
def headSetBits (s : PerHead Bool) : Nat := flagAt 0 s.h0 + flagAt 1 s.h1 + flagAt 2 s.h2

/-- The PROFILE header, 48 bytes (R199). -/
def profileHeaderBytes (h : ProfileHeader) : List Byte :=
  encU 4 h.sequence ++ encU 4 h.station ++ encU 3 (profileFlagBits h.flags) ++ encId h.envelope
    ++ encU 4 h.openTime ++ encU 4 h.closeTime ++ encU 4 h.frames
    ++ encU 2 h.slices.h0 ++ encU 2 h.slices.h1 ++ encU 2 h.slices.h2
    ++ encU 1 h.spans.h0 ++ encU 1 h.spans.h1 ++ encU 1 h.spans.h2
    ++ encId h.leastSector ++ encEntry h.entry ++ encU 2 h.inner ++ encU 2 h.outer
    ++ encMargin h.leastMargin ++ encMaxDepth h.maxDepth ++ encU 1 h.runCount
    ++ encU 1 h.voidCount ++ encU 1 h.nearCount ++ encU 1 h.intrusionCount

/-- A sector entry, 4 bytes (R199). -/
def sectorEntryBytes (e : SectorEntry) : List Byte :=
  encRadius e.minRadius ++ encU 1 e.count ++ encU 1 (sectorClassCode e.cls + 8 * headSetBits e.heads)

/-- A group entry, 4 bytes (R199). -/
def groupEntryBytes (g : GroupEntry) : List Byte :=
  encRadius g.minRadius ++ encU 1 (sectorClassCode g.cls) ++ encU 1 g.count

/-- What follows the PROFILE header in each form (R199): 128 sector entries, 32 group entries, or nothing. -/
def profileBodyBytes : ProfileBody → List Byte
  | .full sectors => sectors.flatMap sectorEntryBytes
  | .compact groups => groups.flatMap groupEntryBytes
  | .summary => []

/-- A point, 7 bytes (R199). -/
def pointBytes (p : PointEntry) : List Byte := encI 3 p.y ++ encI 3 p.z ++ encU 1 p.intensity

/-- A POINTS record (R199). -/
def pointsBytes (r : PointsRecord) : List Byte :=
  encU 1 (headNumber r.head) ++ encU 1 r.level ++ encU 2 r.points.length ++ encU 2 r.revolution ++ encU 2 r.start
    ++ encU 2 r.count ++ encU 4 r.arrival ++ encI 4 r.chainage ++ List.replicate 6 0 ++ r.points.flatMap pointBytes

/-- A reported run, 8 bytes (R199). -/
def runBytes (r : IntrusionRun) : List Byte :=
  encU 1 r.first ++ encU 1 r.last ++ encU 1 r.count ++ encU 1 r.deepest ++ encDepth r.depth
    ++ encRadius (some r.deepestRadius)

/-- An INTRUSION record (R199). -/
def intrusionBytes (r : IntrusionRecord) : List Byte :=
  encU 4 r.sequence ++ encU 4 r.station ++ encU 4 r.closeTime ++ encU 4 r.frames ++ encEntry r.entry
    ++ encId r.envelope ++ encU 1 r.runCount ++ encU 1 r.runs.length
    ++ encU 1 (intrusionFlagBits r.fullRing r.moreRuns r.alerting) ++ encMaxDepth r.maxDepth
    ++ r.runs.flatMap runBytes

/-- The detail of an EVENT record (R200), before its filler. -/
def eventDetailBytes : EventDetail → List Byte
  | .sliceMalformed start count revolution => encU 2 start ++ encU 2 count ++ encU 2 revolution
  | .gap expected start revolution => encU 2 expected ++ encU 2 start ++ encU 2 revolution
  | .headSilent revolution expected => encU 2 revolution ++ encU 2 expected
  | .headFault code temperature => encU 1 code ++ encI 1 temperature
  | .headWarn code temperature => encU 1 code ++ encI 1 temperature
  | .wheelLost silent other => encU 4 silent ++ encU 1 (wheelStatusCode other)
  | .slip f d dA dB => encU 4 f ++ encU 4 d ++ encI 4 dA ++ encI 4 dB
  | .reversal h behind => encI 4 h ++ encU 4 behind
  | .unknownMarker window => encU 4 window
  | .repeatMarker position label status => encI 4 position ++ encU 2 label ++ encU 1 (markerStatusCode status)
  | .missedMarker position label h => encI 4 position ++ encU 2 label ++ encI 4 h
  | .recalRefused label delta u oldA oldB candidates =>
    encU 2 label ++ encU 4 delta ++ encI 4 u ++ encU 3 oldA ++ encU 3 oldB
      ++ encU 3 (candidates.getD (0, 0)).1 ++ encU 3 (candidates.getD (0, 0)).2
  | .recalibrated label delta u oldA oldB newA newB =>
    encU 2 label ++ encU 4 delta ++ encI 4 u ++ encU 3 oldA ++ encU 3 oldB ++ encU 3 newA ++ encU 3 newB
  | .profileDropped sequence station level dataOccupancy =>
    encU 4 sequence ++ encU 4 station ++ encU 1 level ++ encU 2 dataOccupancy
  | .alert sequence station entry maxDepth runCount =>
    encU 4 sequence ++ encU 4 station ++ encU 2 entry ++ encDepth maxDepth ++ encU 1 runCount
  | .headsLost station limit states =>
    encStation station ++ encU 2 limit ++ encU 1 (portStateCode states.h0) ++ encU 1 (portStateCode states.h1)
      ++ encU 1 (portStateCode states.h2)
  | .linkLost station limit occupancy => encStation station ++ encU 2 limit ++ encU 4 occupancy
  | .intrusionLost station sequence runCount maxDepth =>
    encU 4 station ++ encU 4 sequence ++ encU 1 runCount ++ encDepth maxDepth

/-- Bytes followed by filler up to length `n`. -/
def padTo (n : Nat) (bytes : List Byte) : List Byte := bytes ++ List.replicate (n - bytes.length) 0

/-- An EVENT record, 32 bytes (R200). -/
def eventBytes (e : EventRecord) : List Byte :=
  encU 1 (eventKindCode (eventKind e.detail)) ++ encU 1 (sourceCode e.source) ++ encU 4 e.time ++ encI 4 e.chainage
    ++ padTo 22 (eventDetailBytes e.detail)

/-- A RESPONSE record (R198). -/
def responseBytes (r : ResponseRecord) : List Byte :=
  [r.tag, r.kind] ++ encU 1 (statusCode r.status) ++ [0] ++ encU 2 r.payload.length ++ encU 4 r.time
    ++ encU 4 r.takenCount ++ [0, 0] ++ r.payload

/-- A RUN_END record, 64 bytes (R199). -/
def runEndBytes (r : RunEndRecord) : List Byte :=
  encU 4 r.runNumber ++ encU 1 (endReasonCode r.reason)
    ++ encU 1 ((r.haltFault.map eventKindCode).getD 0)
    ++ encU 1 (flagAt 0 r.startTime.isSome + flagAt 1 r.lastSequence.isSome) ++ [0]
    ++ encU 4 (r.startTime.getD 0) ++ encU 4 r.endTime ++ encU 4 r.counters.profilesClosed
    ++ encU 4 (r.lastSequence.getD 0) ++ encU 4 r.counters.profilesDropped ++ encU 4 r.counters.pointsDropped
    ++ encU 4 r.counters.eventsDropped ++ encU 4 r.counters.intrusionsDropped ++ encI 4 r.finalC ++ encI 4 r.finalH
    ++ encU 4 r.counters.markersMatched ++ encU 4 r.counters.markersMissed ++ encU 4 r.counters.markersUnknown
    ++ List.replicate 4 0

/-- The content of a record, the payload of its trunk frame (R144, R197). -/
def recordBytes : Record → List Byte
  | .profile header body => profileHeaderBytes header ++ profileBodyBytes body
  | .points r => pointsBytes r
  | .intrusion r => intrusionBytes r
  | .event r => eventBytes r
  | .response r => responseBytes r
  | .runEnd r => runEndBytes r

/-- The trunk frame in which a record is sent (R197). -/
def recordFrame (r : Record) : List Byte := trunkFrame (BitVec.ofNat 8 (recordKind r)) (recordBytes r)

/-- A number of a fault record at width 4; a negative one in two's complement (R196, log 25). -/
def encNumber (x : Int) : List Byte := if 0 ≤ x then encU 4 x.toNat else encI 4 x

/-- A fault record as the FAULTS section reports it, 22 bytes (R200). -/
def faultRecordBytes (r : FaultRecord) : List Byte :=
  encU 1 (eventKindCode r.kind) ++ encU 1 (sourceCode r.source) ++ encU 4 r.time ++ encI 4 r.chainage
    ++ encStation r.station ++ encNumber r.detail1 ++ encNumber r.detail2

/-- A fault kind that may be absent: its presence byte and its code (R196). -/
def encKind (k : Option EventKind) : List Byte := encOpt 1 (k.map eventKindCode)

end Sys2Proof.Machine
end

