-- ==== Sys2Proof/Machine/Faults.lean ====
section
/-! DEFINITION. Fault Capture's slots (R183, R184, R186) and the making of an EVENT record. -/

namespace Sys2Proof.Machine

/-- An EVENT record made now: it carries the timebase value and C (R34, R78, R185, R187). -/
def makeEvent (s : State) (source : Source) (detail : EventDetail) : EventRecord :=
  ⟨source, s.run.timebase, s.odo.c, detail⟩

/-- The fault record of an event (R184). -/
def faultRecordOf (e : EventRecord) : FaultRecord :=
  ⟨eventKind e.detail, e.source, e.time, e.chainage, faultStation e.detail, faultDetail1 e.detail, faultDetail2 e.detail⟩

/-- A report at the slot of its class (R183). -/
def captureIn (r : FaultRecord) (slot : Slot) : Slot :=
  if slot.lock then { slot with lost := satAdd 255 slot.lost 1 } else { slot with record := some r, lock := true }

/-- A soft fault reported to Fault Capture (R182, R183). -/
def captureSoft (e : EventRecord) (f : FaultCapture) : FaultCapture :=
  { f with soft := captureIn (faultRecordOf e) f.soft, softReported := inc32 f.softReported }

/-- A hard fault reported to Fault Capture (R182, R183). -/
def captureHard (e : EventRecord) (f : FaultCapture) : FaultCapture :=
  { f with hard := captureIn (faultRecordOf e) f.hard, hardReported := inc32 f.hardReported }

/-- EVENT_LOSS (R186): counted at the soft slot whatever its lock, and among the soft faults reported (R182). -/
def captureEventLoss (f : FaultCapture) : FaultCapture :=
  { f with soft := { f.soft with lost := satAdd 255 f.soft.lost 1 }, softReported := inc32 f.softReported }

/-- The head-loss and link-loss timers stopped (R15, R191). -/
def stopLossTimers (f : FaultCapture) : FaultCapture := { f with headLoss := none, linkLoss := none }

end Sys2Proof.Machine
end

