-- ==== Sys2Proof/Machine/Queue.lean ====
section
/-! DEFINITION. The Outbound Queue: space and fit (R146), the arbiter (R149), the pending holder (R158, R160), the degrade
level and the profile forms (R152, R153), the point path (R154, R155), and the offers of each kind of record. -/

namespace Sys2Proof.Machine

/-! ### Space and fit -/

/-- The queue's capacity (section 8.3). -/
def queueCapacity : Nat := 65536

/-- What data records may fill (section 8.3). -/
def dataCapacity : Nat := 61440

/-- The response claim of a taking, and the free space a taking needs (R147, R168). -/
def responseSpace : Nat := 1040

/-- The total size of records. -/
def totalSize (records : List Record) : Nat := (records.map recordSize).sum

/-- The occupancy (R145). -/
def occupancy (q : Outbound) : Nat := totalSize q.control + totalSize q.data

/-- The data occupancy (R145). -/
def dataOccupancy (q : Outbound) : Nat := totalSize q.data

/-- The pending holder's claim (R147). -/
def holderClaim (q : Outbound) : Nat := totalSize q.holder

/-- The free space (R146). -/
def freeSpace (q : Outbound) : Nat := queueCapacity - occupancy q

/-- Whether a control record of a size fits: its size is at most the space left by the two claims (R146). -/
def fitsControl (q : Outbound) (size : Nat) : Bool :=
  decide (occupancy q + holderClaim q + q.responseClaim + size ≤ queueCapacity)

/-- Whether a data record of a size fits (R146). -/
def fitsData (q : Outbound) (size : Nat) : Bool :=
  fitsControl q size && decide (dataOccupancy q + size ≤ dataCapacity)

/-- A record joins the end of the control list. -/
def joinControl (r : Record) (q : Outbound) : Outbound := { q with control := q.control ++ [r] }

/-- A record joins the end of the data list. -/
def joinData (r : Record) (q : Outbound) : Outbound := { q with data := q.data ++ [r] }

/-! ### The pending holder -/

/-- Whether a record is an INTRUSION record. -/
def isIntrusion : Record → Bool
  | .intrusion _ => true
  | _ => false

/-- The number of INTRUSION records in the holder (R158). -/
def heldIntrusions (q : Outbound) : Nat := q.holder.countP isIntrusion

/-- A record admitted to the holder, behind the records already there (R158). -/
def intoHolder (r : Record) (q : Outbound) : Outbound := { q with holder := q.holder ++ [r] }

/-- The oldest records of the holder join the control list while each fits; neither its own size nor those behind it count as
claims against it (R160). -/
def serveRecords : List Record → Outbound → Outbound
  | [], q => { q with holder := [] }
  | r :: rest, q =>
    if occupancy q + q.responseClaim + recordSize r ≤ queueCapacity then serveRecords rest (joinControl r q)
    else { q with holder := r :: rest }

/-- The holder is served (R160). -/
def serveHolder (q : Outbound) : Outbound := serveRecords q.holder q

/-! ### The transmitter -/

/-- The record in transmission: the oldest of the list that `sending` names (R149). -/
def sendingRecord (q : Outbound) : Option Record :=
  match q.sending with
  | none => none
  | some .control => q.control.head?
  | some .data => q.data.head?

/-- The frame on the outbound side of the trunk link (R197). -/
def sendingFrame (q : Outbound) : Option (List Byte) := (sendingRecord q).map recordFrame

/-- The record in transmission leaves its list (R150, R151). -/
def dropSent (q : Outbound) : Outbound :=
  match q.sending with
  | none => q
  | some .control => { q with control := q.control.tail, sending := none }
  | some .data => { q with data := q.data.tail, sending := none }

/-- The arbiter's choice when the transmitter is idle and the link UP (R149). -/
def arbitrate (q : Outbound) : Outbound :=
  if q.sending.isNone && q.linkUp then
    if q.control.isEmpty then
      if q.data.isEmpty then q else { q with sending := some .data }
    else { q with sending := some .control }
  else q

/-- The end of an event: the arbiter makes its choice (R149). -/
def endEvent (s : State) : State := s.withQueue (arbitrate s.queue)

/-! ### EVENT records and faults -/

/-- An EVENT record dropped for want of space (R157, R186). -/
def dropEvent (s : State) : State :=
  ((s.withQueue { s.queue with counters := { s.queue.counters with eventLost := inc32 s.queue.counters.eventLost } }
    ).withCounters { s.run.counters with eventsDropped := inc32 s.run.counters.eventsDropped }
    ).withFaults (captureEventLoss s.faults)

/-- An EVENT record is offered (R157). -/
def offerEvent (e : EventRecord) (s : State) : State :=
  if fitsControl s.queue (recordSize (.event e)) then s.withQueue (joinControl (.event e) s.queue) else dropEvent s

/-- A soft fault is raised (R185): its EVENT record is offered, and it is reported to Fault Capture. -/
def raiseSoft (source : Source) (detail : EventDetail) (s : State) : State :=
  let e := makeEvent s source detail
  let s1 := offerEvent e s
  s1.withFaults (captureSoft e s1.faults)

/-- The first two steps of R187 for a hard fault: the capture, then the offer of its EVENT record. -/
def raiseHard (source : Source) (detail : EventDetail) (s : State) : State :=
  let e := makeEvent s source detail
  offerEvent e (s.withFaults (captureHard e s.faults))

/-! ### INTRUSION and RUN_END records -/

/-- An INTRUSION record that two held ones leave no place is lost (R159): counted, and reported as a hard fault. -/
def loseIntrusion (r : IntrusionRecord) (s : State) : State :=
  raiseHard .outboundQueue (.intrusionLost r.station r.sequence r.runCount (r.maxDepth.getD 0))
    ((s.withQueue
        { s.queue with counters := { s.queue.counters with intrusionLost := inc32 s.queue.counters.intrusionLost } }
      ).withCounters { s.run.counters with intrusionsDropped := inc32 s.run.counters.intrusionsDropped })

/-- An INTRUSION record is offered (R158). The second component says that it was lost, which calls for the halt decision of
R192. -/
def offerIntrusion (r : IntrusionRecord) (s : State) : State × Bool :=
  if s.queue.holder.isEmpty then
    if fitsControl s.queue (recordSize (.intrusion r)) then (s.withQueue (joinControl (.intrusion r) s.queue), false)
    else (s.withQueue (intoHolder (.intrusion r) s.queue), false)
  else if heldIntrusions s.queue < 2 then (s.withQueue (intoHolder (.intrusion r) s.queue), false)
  else (loseIntrusion r s, true)

/-- A RUN_END record is offered (R158). -/
def offerRunEnd (r : RunEndRecord) (s : State) : State :=
  if s.queue.holder.isEmpty && fitsControl s.queue (recordSize (.runEnd r)) then
    s.withQueue (joinControl (.runEnd r) s.queue)
  else s.withQueue (intoHolder (.runEnd r) s.queue)

/-! ### The degrade level and PROFILE records -/

/-- The high mark of a watermark code (R7). -/
def highMark : Nat → Nat
  | 0 => 30720
  | 1 => 38400
  | 2 => 46080
  | _ => 53760

/-- The panic mark of a watermark code (R7). -/
def panicMark : Nat → Nat
  | 0 => 46080
  | 1 => 53760
  | 2 => 57600
  | _ => 61440

/-- The hysteresis mark of a watermark code (R7). -/
def hysteresisMark : Nat → Nat
  | 0 => 15360
  | 1 => 23040
  | 2 => 30720
  | _ => 38400

/-- The degrade level that a PROFILE offer sets (R152). -/
def nextLevel (p : RunParams) (q : Outbound) : Nat :=
  let o := dataOccupancy q
  if panicMark p.panicCode ≤ o then 5
  else if highMark p.highCode ≤ o then min (q.level + 1) 5
  else if o ≤ hysteresisMark p.hysteresisCode then max (q.level - 1) q.floor
  else q.level

/-- The forms a PROFILE is tried in at a level, in order (R153). -/
def formsAt (level : Nat) : List ProfileForm :=
  if level ≤ 3 then [.full, .compact, .summary] else if level = 4 then [.compact, .summary] else [.summary]

/-- The record of a form (R137). -/
def profileRecord (c : ProfileContent) : ProfileForm → Record
  | .full => .profile c.header (.full c.sectors)
  | .compact => .profile c.header (.compact c.groups)
  | .summary => .profile c.header .summary

/-- The forms count of a form rises by 1 (R153). -/
def countForm (f : ProfileForm) (k : QueueCounters) : QueueCounters :=
  match f with
  | .full => { k with formsFull := inc32 k.formsFull }
  | .compact => { k with formsCompact := inc32 k.formsCompact }
  | .summary => { k with formsSummary := inc32 k.formsSummary }

/-- A PROFILE for which even SUMMARY does not fit is dropped (R153). -/
def dropProfile (c : ProfileContent) (s : State) : State :=
  raiseSoft .outboundQueue
    (.profileDropped c.header.sequence c.header.station s.queue.level (dataOccupancy s.queue))
    ((s.withQueue
        { s.queue with counters := { s.queue.counters with profileDropped := inc32 s.queue.counters.profileDropped } }
      ).withCounters { s.run.counters with profilesDropped := inc32 s.run.counters.profilesDropped })

/-- The first form that fits joins the data list (R153). -/
def tryForms (c : ProfileContent) : List ProfileForm → State → State
  | [], s => dropProfile c s
  | f :: rest, s =>
    if fitsData s.queue (formSize f) then
      s.withQueue { joinData (profileRecord c f) s.queue with counters := countForm f s.queue.counters }
    else tryForms c rest s

/-- A PROFILE record is offered (R152, R153). -/
def offerProfile (c : ProfileContent) (s : State) : State :=
  let level := nextLevel s.run.params s.queue
  tryForms c (formsAt level) (s.withQueue { s.queue with level := level })

/-! ### The point path -/

/-- The decimation step of a level, none when no point is kept (R154). -/
def keepStep : Nat → Option Nat
  | 0 => some 1
  | 1 => some 2
  | 2 => some 4
  | _ => none

/-- Whether a keep counter keeps a point at a level (R154). -/
def keeps (level counter : Nat) : Bool :=
  match keepStep level with
  | some step => counter % step == 0
  | none => false

/-- The points kept, and the keep counter after them (R154). -/
def decimate (level : Nat) : Nat → List CorrectedPoint → List PointEntry × Nat
  | counter, [] => ([], counter)
  | counter, p :: rest =>
    let r := decimate level ((counter + 1) % 4) rest
    (if keeps level counter then ⟨p.y, p.z, p.intensity⟩ :: r.1 else r.1, r.2)

/-- A slice's point list is offered (R55, R154, R155). An empty list is not offered. -/
def offerPoints (sl : PassedSlice) (points : List CorrectedPoint) (s : State) : State :=
  let q := s.queue
  let kept := decimate q.level (q.keep.get sl.head) points
  let q1 := { q with keep := q.keep.set sl.head kept.2 }
  if kept.1.isEmpty then s.withQueue q1
  else
    let r : PointsRecord :=
      { head := sl.head, level := q.level, revolution := sl.revolution, start := sl.start, count := sl.samples.length,
        arrival := sl.arrival, chainage := sl.chainage, points := kept.1 }
    if fitsData q1 (recordSize (.points r)) then
      s.withQueue { joinData (.points r) q1 with
        counters := { q1.counters with pointsKept := satAdd count32 q1.counters.pointsKept kept.1.length } }
    else
      (s.withQueue { q1 with counters := { q1.counters with pointsDropped := inc32 q1.counters.pointsDropped } }
        ).withCounters { s.run.counters with pointsDropped := inc32 s.run.counters.pointsDropped }

/-- The run reset of the queue (R162): data records not in transmission leave, the level falls to the floor, the holder is
served. -/
def resetQueue (q : Outbound) : Outbound :=
  let kept := if q.sending = some .data then q.data.take 1 else []
  serveHolder
    { q with
      data := kept
      level := q.floor
      counters := { q.counters with
        dataDiscarded := satAdd count32 q.counters.dataDiscarded (q.data.length - kept.length) } }

end Sys2Proof.Machine
end

