-- ==== Sys2Proof/Machine/RouteMap.lean ====
section
/-! DEFINITION. The Route Map: cells and the lookup (R85, R101), reference counts (R93, R94), the guard line (R95), throws
(R103), and the marker list (R73, R97 to R100). -/

namespace Sys2Proof.Machine

/-- The length of a cell (R85). -/
def cellLength : Nat := 20000

/-- The number of cells (R85). -/
def cellCount : Nat := 4096

/-- What cell `i` names: an entry, or none when UNMAPPED (R84). -/
def cellAt (rm : RouteMap) (i : Nat) : Option Nat := tableGet none rm.cells i

/-- Route entry `e` (R87). -/
def entryAt (rm : RouteMap) (e : Nat) : RouteEntry := tableGet {} rm.entries e

/-- Envelope `j` (R90). -/
def envelopeAt (rm : RouteMap) (j : Nat) : Envelope := tableGet {} rm.envelopes j

/-- The limit of sector `s` of an envelope (R90). -/
def limitAt (e : Envelope) (s : Nat) : Nat := e.limits.getD s 0

/-- The mapped-cell count (R84): the number of cells not UNMAPPED. -/
def mappedCount (rm : RouteMap) : Nat := rm.cells.length

/-- The cell of a chainage, none outside the route window (R85). -/
def cellOf (rm : RouteMap) (x : Int) : Option Nat :=
  if rm.base ≤ x ∧ x < rm.base + (cellLength * cellCount : Nat) then some ((x - rm.base) / cellLength).toNat else none

/-- The lookup of a chainage (R101). -/
def lookup (rm : RouteMap) (x : Int) : RouteCopy :=
  match cellOf rm x with
  | none => .outside
  | some i =>
    match cellAt rm i with
    | none => .unmappedCell i
    | some e =>
      let entry := entryAt rm e
      .entry
        { cell := i, entry := e, envelope := entry.envelope, radius := entry.radius, margin := entry.margin,
          zone := entry.zone, alertEnable := entry.alertEnable,
          centreHeight := (envelopeAt rm entry.envelope).centreHeight }

/-! ### Reference counts -/

/-- An entry's reference count changed by a function (R87). -/
def changeReferences (f : Nat → Nat) (e : Nat) (rm : RouteMap) : RouteMap :=
  let entry := entryAt rm e
  { rm with entries := tableSet {} rm.entries e { entry with references := f entry.references } }

/-- A cell unmapped (R94): the entry it named loses one reference. -/
def unmapCell (i : Nat) (rm : RouteMap) : RouteMap :=
  match cellAt rm i with
  | none => rm
  | some e => changeReferences (fun n => n - 1) e { rm with cells := tableSet none rm.cells i none }

/-- A cell mapped to an entry (R93): the entry named before loses one reference, the entry now named gains one. -/
def mapCell (i e : Nat) (rm : RouteMap) : RouteMap :=
  let rm1 := unmapCell i rm
  changeReferences (fun n => n + 1) e { rm1 with cells := tableSet none rm1.cells i (some e) }

/-- The cells from `i` mapped to the entries of a list, in increasing cell order (R93). -/
def mapSpan : Nat → List Nat → RouteMap → RouteMap
  | _, [], rm => rm
  | i, e :: rest, rm => mapSpan (i + 1) rest (mapCell i e rm)

/-- `n` cells from `i` unmapped (R94). -/
def unmapSpan : Nat → Nat → RouteMap → RouteMap
  | _, 0, rm => rm
  | i, n + 1, rm => unmapSpan (i + 1) n (unmapCell i rm)

/-- A new window base: every cell UNMAPPED and every reference count 0 (R86). -/
def rebase (base : Int) (rm : RouteMap) : RouteMap :=
  { rm with
    base := base
    cells := []
    entries := tableMap {} (fun e => { e with references := 0 }) rm.entries }

/-- The lowest defined entry that names an envelope (R92), if any. -/
def namingEntry (rm : RouteMap) (j : Nat) : Option Nat :=
  (rm.entries.find? fun e => e.2.defined && e.2.envelope == j).map Prod.fst

/-! ### The guard line -/

/-- The guard line, in the run states that have one (R95). -/
def guardLine (s : State) : Option Int :=
  if frozen s.run.runState then
    match s.run.params.direction with
    | .up => some (s.odo.h + s.run.params.guardDistance)
    | .down => some (s.odo.h - s.run.params.guardDistance)
  else none

/-- Whether a cell is beyond a guard line (R95): by its start on an UP run, by its end on a DOWN run. -/
def cellBeyond (d : Direction) (base : Int) (g : Int) (i : Nat) : Bool :=
  match d with
  | .up => decide (g ≤ base + (cellLength * i : Nat))
  | .down => decide (base + (cellLength * i + cellLength : Nat) ≤ g)

/-- Whether a marker at a position is beyond a guard line (R95). -/
def markerBeyond (d : Direction) (g position : Int) : Bool := beyond d position g

/-- The lowest cell of a span that is not beyond the guard line, with the guard line (R93, R94). -/
def lateCell (s : State) (first count : Nat) : Option (Nat × Int) :=
  match guardLine s with
  | none => none
  | some g =>
    (((List.range count).map fun k => first + k).find? fun i =>
      !cellBeyond s.run.params.direction s.route.base g i).map fun i => (i, g)

/-- The guard line that a marker's position is not beyond (R98, R99), if so. -/
def lateMarker (s : State) (position : Int) : Option Int :=
  match guardLine s with
  | none => none
  | some g => if markerBeyond s.run.params.direction g position then none else some g

/-! ### Throws -/

/-- The inner throw (R103), Lc in millimetres, the radius in metres. -/
def innerThrow (radius : Int) (lc : Nat) : Nat :=
  if radius = 0 then 0 else min 5000 (ceilDiv (lc * lc) (800 * radius.natAbs))

/-- The outer throw (R103). -/
def outerThrow (radius : Int) (lc lo : Nat) : Nat :=
  if radius = 0 then 0 else min 5000 (ceilDiv (lo * lo - lc * lc) (800 * radius.natAbs))

/-! ### The marker list -/

/-- The capacity of the marker list (R97). -/
def markerCapacity : Nat := 256

/-- The least distance between two markers (R97). -/
def markerSpacing : Nat := 10000

/-- The nearest marker to a chainage; of two equally near, the one at the higher position when `higher`, else the lower
(R73, R98). -/
def nearestMarker (x : Int) (higher : Bool) : List Marker → Option Marker
  | [] => none
  | m :: rest =>
    match nearestMarker x higher rest with
    | none => some m
    | some n =>
      let dm := (m.position - x).natAbs
      let dn := (n.position - x).natAbs
      if dm < dn then some m
      else if dn < dm then some n
      else if decide (m.position < n.position) = higher then some n
      else some m

/-- A marker inserted in its place by position (R97, R98). -/
def insertMarker (m : Marker) : List Marker → List Marker
  | [] => [m]
  | n :: rest => if m.position < n.position then m :: n :: rest else n :: insertMarker m rest

/-- The marker nearest to a position among those within 10,000 dmm of it, the lower of two equally near (R98). -/
def conflictingMarker (position : Int) (markers : List Marker) : Option Marker :=
  nearestMarker position false (markers.filter fun m => decide ((m.position - position).natAbs < markerSpacing))

/-- The markers with the run status of the one at a position replaced (R74, R76). -/
def setMarkerStatus (position : Int) (status : MarkerStatus) (markers : List Marker) : List Marker :=
  markers.map fun m => if m.position = position then { m with status := status } else m

/-- Every marker's run status UNSEEN (R9, R100). -/
def unseeMarkers (rm : RouteMap) : RouteMap :=
  { rm with markers := rm.markers.map fun m => { m with status := .unseen } }

end Sys2Proof.Machine
end

