-- ==== Sys2Proof/Machine/Comparator.lean ====
section
/-! DEFINITION. The Clearance Comparator: widening (R128 to R130), classes and margins (R131, R132), intrusion runs (R133,
R134), the records as built (R135 to R139) and the alert line (R140, R141). -/

namespace Sys2Proof.Machine

/-! ### Sectors -/

/-- The number of sectors (R109). -/
def sectorCount : Nat := 128

/-- The accumulator of a sector (R109). -/
def sectorAt (ctx : Context) (s : Nat) : SectorAcc := tableGet {} ctx.sectors s

/-- The throws of a profile (R128): inner and outer, 0 without an entry. -/
def throwsOf (p : RunParams) : RouteCopy → Nat × Nat
  | .entry e => (innerThrow e.radius p.bogieCentres, outerThrow e.radius p.bogieCentres p.vehicleLength)
  | .outside => (0, 0)
  | .unmappedCell _ => (0, 0)

/-- The widening of sector `s` (R129): the throw of its side of the ring, by the horizontal reach of its centre direction. -/
def widening (radius : Int) (inner outer s : Nat) : Nat :=
  let cy := cosine (32 * s + 16)
  let reach := if decide (0 < cy) = decide (0 < radius) then inner else outer
  ceilDiv (reach * cy.natAbs) 32767

/-- The widened limit W(s) (R130), where it is formed: an ASSESS entry and a limit other than 0. -/
def widenedLimit (p : RunParams) (copy : RouteCopy) (limit s : Nat) : Option Nat :=
  match copy with
  | .entry e =>
    if e.zone = .assess ∧ limit ≠ 0 then
      some (limit + widening e.radius (innerThrow e.radius p.bogieCentres)
        (outerThrow e.radius p.bogieCentres p.vehicleLength) s)
    else none
  | .outside => none
  | .unmappedCell _ => none

/-- The warning margin of a copy (R127). -/
def copyMargin : RouteCopy → Nat
  | .entry e => e.margin
  | .outside => 0
  | .unmappedCell _ => 0

/-- The class of a margin (R131, orders 3 to 5). -/
def classOfMargin (warning : Nat) (m : Int) : SectorClass :=
  if m < 0 then .intrusion else if m < warning then .near else .clear

/-- One sector classed (R131). -/
def assessSector (p : RunParams) (copy : RouteCopy) (limit s : Nat) (acc : SectorAcc) : AssessedSector :=
  if acc.count = 0 then ⟨s, .void, none, acc⟩
  else
    match widenedLimit p copy limit s with
    | none => ⟨s, .unassessed, none, acc⟩
    | some w =>
      let m : Int := (acc.minRadius.getD 0 : Int) - w
      ⟨s, classOfMargin (copyMargin copy) m, some m, acc⟩

/-- The envelope that a copy names (R127). -/
def copyEnvelope (rm : RouteMap) : RouteCopy → Envelope
  | .entry e => envelopeAt rm e.envelope
  | .outside => {}
  | .unmappedCell _ => {}

/-- The 128 sectors classed, in sector order (R127, R131). -/
def assessSectors (p : RunParams) (rm : RouteMap) (ctx : Context) : List AssessedSector :=
  let env := copyEnvelope rm ctx.copy
  (List.range sectorCount).map fun s => assessSector p ctx.copy (limitAt env s) s (sectorAt ctx s)

/-- The number of sectors of a class (R132). -/
def classCount (c : SectorClass) (sectors : List AssessedSector) : Nat := sectors.countP fun a => a.cls == c

/-- The least margin and its sector, the first of several that share it (R132). -/
def leastMargin : List AssessedSector → Option (Int × Nat)
  | [] => none
  | a :: rest =>
    match a.margin, leastMargin rest with
    | none, r => r
    | some m, none => some (m, a.sector)
    | some m, some r => if r.1 < m then some r else some (m, a.sector)

/-! ### Intrusion runs -/

/-- Whether a sector is INTRUSION. -/
def intrudes (a : AssessedSector) : Bool := a.cls == .intrusion

/-- The shortfall of a sector: the negative of its margin (R134). -/
def shortfall (a : AssessedSector) : Nat := (-(a.margin.getD 0)).toNat

/-- The run in progress, with one more intruding sector; the first of several equally deep stays the deepest (R134). -/
def extendRun (cur : Option IntrusionRun) (a : AssessedSector) : IntrusionRun :=
  match cur with
  | none => ⟨a.sector, a.sector, 1, shortfall a, a.sector, a.acc.minRadius.getD 0⟩
  | some r =>
    if r.depth < shortfall a then ⟨r.first, a.sector, r.count + 1, shortfall a, a.sector, a.acc.minRadius.getD 0⟩
    else { r with last := a.sector, count := r.count + 1 }

/-- The runs that a visit finds, in the order it finds them, with the run in progress (R133). -/
def runsFrom : Option IntrusionRun → List AssessedSector → List IntrusionRun
  | cur, [] => cur.toList
  | cur, a :: rest =>
    if intrudes a then runsFrom (some (extendRun cur a)) rest else cur.toList ++ runsFrom none rest

/-- The search start: the lowest sector that is not INTRUSION (R133). -/
def searchStart (sectors : List AssessedSector) : Option Nat := sectors.findIdx? fun a => !intrudes a

/-- The intrusion runs of a profile (R133): the visit goes round from the sector after the search start; with no search start
the one run is the full ring. -/
def intrusionRuns (sectors : List AssessedSector) : List IntrusionRun :=
  match searchStart sectors with
  | some f => runsFrom none (sectors.drop (f + 1) ++ sectors.take (f + 1))
  | none => runsFrom none sectors

/-- The greatest depth among the runs (R134). -/
def maxDepthOf : List IntrusionRun → Option Nat
  | [] => none
  | r :: rest => some (max r.depth ((maxDepthOf rest).getD 0))

/-- The most runs that are reported (R134). -/
def reportedRuns : Nat := 8

/-! ### Records as built -/

/-- The sector entry of the full form (R137). -/
def sectorEntry (a : AssessedSector) : SectorEntry := ⟨a.acc.minRadius, a.acc.count, a.cls, a.acc.heads⟩

/-- The lesser of two radii that may be absent (R137). -/
def lesserRadius (x y : Option Nat) : Option Nat :=
  match x, y with
  | none, y => y
  | some a, none => some a
  | some a, some b => some (min a b)

/-- The group entry of some sectors (R137). -/
def groupOf (sectors : List AssessedSector) : GroupEntry :=
  { minRadius := sectors.foldr (fun a r => lesserRadius a.acc.minRadius r) none
    cls := sectors.foldr (fun a c => worseClass a.cls c) .void
    count := min 255 (sectors.map fun a => a.acc.count).sum }

/-- The 32 group entries of the compact form (R137). -/
def groupsOf (sectors : List AssessedSector) : List GroupEntry :=
  (List.range 32).map fun g => groupOf ((sectors.drop (4 * g)).take 4)

/-- The revolutions a head spanned (R136). -/
def revolutionsSpanned (t : HeadTally) : Nat :=
  if t.slices = 0 then 0
  else min 255 ((((t.last.getD 0 : Int) - (t.first.getD 0 : Int)) % 65536).toNat + 1)

/-- The entry index of a copy (R136). -/
def copyEntry : RouteCopy → Option Nat
  | .entry e => some e.entry
  | .outside => none
  | .unmappedCell _ => none

/-- The envelope id of a copy (R136). -/
def copyEnvelopeId : RouteCopy → Option Nat
  | .entry e => some e.envelope
  | .outside => none
  | .unmappedCell _ => none

/-- Whether a copy found no entry (R117: UNMAPPED). -/
def copyUnmapped : RouteCopy → Bool
  | .entry _ => false
  | .outside => true
  | .unmappedCell _ => true

/-- Whether a copy's zone is NO_ASSESS (R117). -/
def copyNoAssess : RouteCopy → Bool
  | .entry e => e.zone == .noAssess
  | .outside => false
  | .unmappedCell _ => false

/-- Whether a copy enables the alert (R140). -/
def copyAlerts : RouteCopy → Bool
  | .entry e => e.alertEnable
  | .outside => false
  | .unmappedCell _ => false

/-- What the Comparator finds in a profile (R132 to R134, R140). -/
structure Assessment where
  sectors : List AssessedSector
  runs : List IntrusionRun
  maxDepth : Option Nat
  fullRing : Bool
  moreRuns : Bool
  alerting : Bool
  deriving DecidableEq, Repr

/-- Whether a closure meets the alert condition (R140). -/
def meetsAlert (p : RunParams) (copy : RouteCopy) (maxDepth : Option Nat) : Bool :=
  copyAlerts copy && (match maxDepth with | some d => decide (p.alertDepth ≤ d) | none => false)

/-- The assessment of a closed profile (R127, steps 1 to 6). -/
def assessment (p : RunParams) (rm : RouteMap) (cp : ClosedProfile) : Assessment :=
  let sectors := assessSectors p rm cp.ctx
  let runs := intrusionRuns sectors
  let depth := maxDepthOf runs
  { sectors := sectors
    runs := runs
    maxDepth := depth
    fullRing := (searchStart sectors).isNone
    moreRuns := decide (reportedRuns < runs.length)
    alerting := meetsAlert p cp.ctx.copy depth }

/-- The flags of a profile (R114, R117, R132). -/
def profileFlags (cp : ClosedProfile) (a : Assessment) : ProfileFlags :=
  { reason := cp.reason
    unmapped := copyUnmapped cp.ctx.copy
    noAssess := copyNoAssess cp.ctx.copy
    slip := cp.ctx.worst == .slip
    single := cp.ctx.worst == .single
    headWarn := cp.ctx.warnSeen
    gap := cp.ctx.gapSeen
    sparse := cp.sparse
    intruded := a.sectors.any intrudes
    marginal := a.sectors.any fun x => x.cls == .near
    alerting := a.alerting
    moreRuns := a.moreRuns
    fullRing := a.fullRing }

/-- The PROFILE header (R136). -/
def profileHeader (p : RunParams) (cp : ClosedProfile) (a : Assessment) : ProfileHeader :=
  { sequence := cp.sequence
    station := cp.ctx.station
    flags := profileFlags cp a
    openTime := cp.ctx.openTime
    closeTime := cp.closeTime
    frames := cp.frames
    slices := cp.ctx.tallies.map HeadTally.slices
    spans := cp.ctx.tallies.map revolutionsSpanned
    entry := copyEntry cp.ctx.copy
    envelope := copyEnvelopeId cp.ctx.copy
    inner := (throwsOf p cp.ctx.copy).1
    outer := (throwsOf p cp.ctx.copy).2
    leastMargin := (leastMargin a.sectors).map Prod.fst
    leastSector := (leastMargin a.sectors).map Prod.snd
    runCount := a.runs.length
    maxDepth := a.maxDepth
    voidCount := classCount .void a.sectors
    nearCount := classCount .near a.sectors
    intrusionCount := classCount .intrusion a.sectors }

/-- The content of every form of the PROFILE record (R136, R137). -/
def profileContent (p : RunParams) (cp : ClosedProfile) (a : Assessment) : ProfileContent :=
  ⟨profileHeader p cp a, a.sectors.map sectorEntry, groupsOf a.sectors⟩

/-- The INTRUSION record (R138). -/
def intrusionRecord (cp : ClosedProfile) (a : Assessment) : IntrusionRecord :=
  { sequence := cp.sequence
    station := cp.ctx.station
    closeTime := cp.closeTime
    frames := cp.frames
    entry := copyEntry cp.ctx.copy
    envelope := copyEnvelopeId cp.ctx.copy
    runCount := a.runs.length
    maxDepth := a.maxDepth
    fullRing := a.fullRing
    moreRuns := a.moreRuns
    alerting := a.alerting
    runs := a.runs.take reportedRuns }

/-! ### Taking a profile -/

/-- The Comparator's own state after a profile (R127, R140). -/
def comparatorAfter (p : RunParams) (cp : ClosedProfile) (a : Assessment) (c : Comparator) : Comparator :=
  let c1 : Comparator :=
    { c with
      assessed := inc32 c.assessed
      intruding := if a.runs.isEmpty then c.intruding else inc32 c.intruding }
  if a.alerting then
    { c1 with
      alertLine := true
      hold := startMs p.alertHold
      lastAlert := some ⟨cp.sequence, cp.ctx.station⟩
      assertions := if c.alertLine then c1.assertions else inc32 c1.assertions }
  else c1

/-- The detail of the ALERT event (R140). -/
def alertDetail (cp : ClosedProfile) (a : Assessment) : EventDetail :=
  .alert cp.sequence cp.ctx.station ((copyEntry cp.ctx.copy).getD 65535) (a.maxDepth.getD 0) a.runs.length

/-- The INTRUSION record of a profile is offered when it has a run (R138, R139). -/
def offerRuns (cp : ClosedProfile) (a : Assessment) (s : State) : State × Bool :=
  if a.runs.isEmpty then (s, false) else offerIntrusion (intrusionRecord cp a) s

/-- The Comparator takes a closed profile (R127): its own state, then the records in the order of R139. The second component
says that an INTRUSION record was lost. -/
def assess (cp : ClosedProfile) (s : State) : State × Bool :=
  let p := s.run.params
  let a := assessment p s.route cp
  let asserted := a.alerting && !s.comparator.alertLine
  let s1 := s.withComparator (comparatorAfter p cp a s.comparator)
  let r := offerRuns cp a s1
  let s2 := if asserted then offerEvent (makeEvent r.1 .comparator (alertDetail cp a)) r.1 else r.1
  (offerProfile (profileContent p cp a) s2, r.2)

/-- The alert line released and its hold timer stopped (R141, R142). -/
def releaseAlert (c : Comparator) : Comparator := { c with alertLine := false, hold := none }

end Sys2Proof.Machine
end

