-- ==== Sys2Proof/Machine/Assembler.lean ====
section
/-! DEFINITION. The Profile Assembler: stations (R106), opening and feeding contexts (R109 to R113), closures and their
triggers (R114 to R122), and entry to HALTED (R123, R191, R192). -/

namespace Sys2Proof.Machine

/-! ### Stations and contexts -/

/-- The station index of a chainage, negative behind the origin (R106). -/
def stationOf (p : RunParams) (x : Int) : Int :=
  match p.direction with
  | .up => (x - p.origin) / p.pitch
  | .down => (p.origin - x) / p.pitch

/-- The centre chainage of a station (R106). -/
def centreOf (p : RunParams) (j : Nat) : Int :=
  match p.direction with
  | .up => p.origin + (j * p.pitch + p.pitch / 2 : Nat)
  | .down => p.origin - (j * p.pitch + p.pitch / 2 : Nat)

/-- The capacity of the open-context set (R108). -/
def contextCapacity : Nat := 8

/-- A context placed by station index (R108). -/
def insertContext (c : Context) : List Context → List Context
  | [] => [c]
  | d :: rest => if c.station < d.station then c :: d :: rest else d :: insertContext c rest

/-- A fresh context for a station (R112). -/
def newContext (s : State) (j : Nat) : Context :=
  let centre := centreOf s.run.params j
  { station := j
    centre := centre
    openTime := s.run.timebase
    timer := startMs s.run.params.closeTimeout
    copy := lookup s.route centre }

/-- A context is opened for a station (R112). -/
def openContext (j : Nat) (s : State) : State :=
  s.withAssembler { s.assembler with contexts := insertContext (newContext s j) s.assembler.contexts }

/-- The open context of a station, if there is one (R111). -/
def contextFor (j : Nat) (s : State) : Option Context := s.assembler.contexts.find? fun c => c.station == j

/-- The open context of a station changed by a function. -/
def changeContext (j : Nat) (f : Context → Context) (s : State) : State :=
  s.withAssembler
    { s.assembler with contexts := s.assembler.contexts.map fun c => if c.station = j then f c else c }

/-- A head's tally after a slice of a revolution (R113). -/
def tallySlice (revolution : Nat) (t : HeadTally) : HeadTally :=
  { slices := satAdd 65535 t.slices 1
    first := if t.slices = 0 then some revolution else t.first
    last := some revolution }

/-- A context takes a slice (R113). -/
def feedContext (p : RunParams) (mode : OdoMode) (sl : PassedSlice) (c : Context) : Context :=
  { c with
    tallies := c.tallies.set sl.head (tallySlice sl.revolution (c.tallies.get sl.head))
    worst := worseMode c.worst mode
    warnSeen := c.warnSeen || sl.warn
    gapSeen := c.gapSeen || sl.gap
    timer := startMs p.closeTimeout }

/-- A head's last station after a slice placed at `j` (R113). -/
def raiseStation (j : Nat) (last : Option Nat) : Option Nat :=
  match last with
  | none => some j
  | some k => if k < j then some j else some k

/-- A sector accumulator after one pair of a head (R109). -/
def accumulateSector (h : HeadId) (radius : Nat) (a : SectorAcc) : SectorAcc :=
  { count := satAdd 255 a.count 1
    minRadius := lesserRadius a.minRadius (some radius)
    heads := a.heads.set h true }

/-- A context after the accepted samples of a slice (R54, R109). -/
def accumulate (h : HeadId) : List CorrectedPoint → Context → Context
  | [], c => c
  | p :: rest, c =>
    accumulate h rest
      { c with sectors := tableSet {} c.sectors p.sector (accumulateSector h p.radius (sectorAt c p.sector)) }

/-- The centre height that a context gives the Corrector (R50). -/
def centreHeightOf (p : RunParams) : RouteCopy → Nat
  | .entry e => e.centreHeight
  | .outside => p.defaultCentre
  | .unmappedCell _ => p.defaultCentre

/-! ### Closures -/

/-- SPARSE (R117): some port is STREAMING and the context holds no slice of its head. -/
def isSparse (ports : PerHead Port) (c : Context) : Bool :=
  [HeadId.h0, HeadId.h1, HeadId.h2].any fun p =>
    (ports.get p).state == .streaming && (c.tallies.get p).slices == 0

/-- One context closes (R115), with a reason flag or none. The second component says that its INTRUSION record was lost. -/
def closeContext (reason : Option CloseReason) (c : Context) (s : State) : State × Bool :=
  let cp : ClosedProfile :=
    { ctx := c
      sequence := s.assembler.sequence
      reason := reason
      sparse := isSparse s.ports c
      closeTime := s.run.timebase
      frames := s.odo.cameraFrames }
  assess cp
    ((s.withAssembler
        { s.assembler with
          sequence := wrap32 (s.assembler.sequence + 1)
          closedLine := c.station + 1
          contexts := s.assembler.contexts.filter fun d => d.station != c.station }
      ).withCounters { s.run.counters with profilesClosed := inc32 s.run.counters.profilesClosed })

/-- Contexts close one after another, each with its own reason (R114). -/
def closeAll : List (Context × Option CloseReason) → State → State × Bool
  | [], s => (s, false)
  | c :: rest, s =>
    let r := closeContext c.2 c.1 s
    let t := closeAll rest r.1
    (t.1, r.2 || t.2)

/-- Every open context closes with one reason (R122, R123). -/
def closeEvery (reason : CloseReason) (s : State) : State × Bool :=
  closeAll (s.assembler.contexts.map fun c => (c, some reason)) s

/-- The progress condition for station `j` (R119): some port is STREAMING, and the last station of every STREAMING head is
present and at least `j` + lag. -/
def progressHolds (s : State) (j : Nat) : Bool :=
  anyStreaming s.ports &&
    [HeadId.h0, HeadId.h1, HeadId.h2].all fun p =>
      (s.ports.get p).state != .streaming ||
        (match s.assembler.lastStation.get p with
        | some k => decide (j + s.run.params.closeLag ≤ k)
        | none => false)

/-- The progress test (R119): every open context whose condition holds closes with no reason flag. -/
def progressTest (s : State) : State × Bool :=
  closeAll ((s.assembler.contexts.filter fun c => progressHolds s c.station).map fun c => (c, none)) s

/-- The closures of a close timer expiry (R114, R121): the older contexts EARLY, the named one TIMED_OUT. -/
def timeOutClosures (j : Nat) (s : State) : State × Bool :=
  closeAll
    ((s.assembler.contexts.filter fun c => decide (c.station ≤ j)).map fun c =>
      (c, some (if c.station = j then .timedOut else .early)))
    s

/-! ### The end of a run -/

/-- The run end hand-over (R14). -/
def handOver (o : Odometry) : Odometry := { o with h := o.c, r := 0, reversed := false }

/-- The RUN_END record as built now (R12). -/
def buildRunEnd (reason : EndReason) (fault : Option EventKind) (s : State) : RunEndRecord :=
  { runNumber := s.run.runNumber
    reason := reason
    haltFault := fault
    startTime := s.run.startTime
    endTime := s.run.timebase
    lastSequence :=
      if s.assembler.sequence = 0 ∧ s.run.counters.profilesClosed = 0 then none
      else some (wrap32 (s.assembler.sequence + count32))
    counters := s.run.counters
    finalC := s.odo.c
    finalH := s.odo.h }

/-- The run enters HALTED by a fault of a kind (R191); an INTRUSION record lost within it calls for nothing more (R192). -/
def haltRun (fault : EventKind) (s : State) : State :=
  let s1 := (closeEvery .aborted s).1
  let s2 := offerRunEnd (buildRunEnd .halted (some fault) s1) s1
  ((s2.withRun { s2.run with runState := .halted }).withOdo (handOver s2.odo)).withFaults (stopLossTimers s2.faults)

/-- The deferred halt decision of R192, when every closure of the event is done: the second component says that an INTRUSION
record was lost within them. -/
def decideHalt (r : State × Bool) : State :=
  if r.2 && inSurvey r.1.run.runState then haltRun .intrusionLost r.1 else r.1

/-- The lowest open station (R187). -/
def lowestStation (s : State) : Option Nat := s.assembler.contexts.head?.map Context.station

/-- A hard fault that arises outside closures is taken (R187): captured, offered, and in a survey the run halts. -/
def takeHardFault (source : Source) (detail : EventDetail) (s : State) : State :=
  let s1 := raiseHard source detail s
  if inSurvey s1.run.runState then haltRun (eventKind detail) s1 else s1

/-- The close timer of a context expires (R121): its closures and the halt decision. -/
def closeTimerExpires (j : Nat) (s : State) : State :=
  match contextFor j s with
  | none => s
  | some c => if timerExpires c.timer then endEvent (decideHalt (timeOutClosures j s)) else s

/-- CLOSE_TIMER_EXPIRY (R121). -/
def execCloseTimerExpiry (station : Nat) (s : State) : Host.Outcome State Fault Refusal :=
  .next (closeTimerExpires station s)

/-- ALERT_HOLD_EXPIRY (R141). -/
def execAlertHoldExpiry (s : State) : Host.Outcome State Fault Refusal :=
  .next (if timerExpires s.comparator.hold then endEvent (s.withComparator (releaseAlert s.comparator)) else s)

/-- HEAD_LOSS_TIMER_EXPIRY (R187, R188). -/
def execHeadLossTimerExpiry (s : State) : Host.Outcome State Fault Refusal :=
  .next
    (if timerExpires s.faults.headLoss then
      endEvent
        (takeHardFault .headPorts
          (.headsLost (lowestStation s) s.run.params.headLossLimit (s.ports.map Port.state))
          (s.withFaults { s.faults with headLoss := none }))
    else s)

/-- LINK_LOSS_TIMER_EXPIRY (R187, R189). -/
def execLinkLossTimerExpiry (s : State) : Host.Outcome State Fault Refusal :=
  .next
    (if timerExpires s.faults.linkLoss then
      endEvent
        (takeHardFault .trunkLink
          (.linkLost (lowestStation s) s.run.params.linkLossLimit (occupancy s.queue))
          (s.withFaults { s.faults with linkLoss := none }))
    else s)

end Sys2Proof.Machine
end

