-- ==== Sys2Proof/Config.lean ====
section
/-! DEFINITION. The choices the specification leaves open, as constants without a body: nothing can be proved of their
values, so a claim that holds, holds whatever they are. -/

namespace Sys2Proof

/-- When within a slice's event its point list is offered (R156: either of the two offers may be first): before the
closures of the slice's progress test, between those closures and the halt decision of R192, or after that decision. -/
inductive PointsTurn where
  | beforeClosures | beforeHaltDecision | afterHaltDecision
  deriving DecidableEq, Repr, Inhabited

/-- The free value of R156, applied to the count of such choices made so far. DESIGN CHOICE (log 7). -/
opaque Config.pointsTurn : Nat → PointsTurn

/-- Whether the RESPONSE of a SET TIME carries the timebase value that the request installed (true) or the one it
replaced (false): R198 says only "the timebase value at the taking". DESIGN CHOICE (log 8). -/
opaque Config.setTimeStampsNew : Bool

end Sys2Proof
end

