-- ==== Sys2Proof/Machine/Management.lean ====
section
/-! DEFINITION. The taking of a request (R168, R169, R170), the staging record (R172 to R177), and IDENTIFY, BAD_KIND, SET
TIME, SET LEVEL FLOOR and ACK FAULT. -/

namespace Sys2Proof.Machine

/-- The outcome of a request (R169): status and response payload; `stamp` where the response's time is not the timebase value
at the start of the taking (log 8). -/
structure Reply where
  status : Status
  payload : List Byte := []
  stamp : Option Nat := none
  deriving DecidableEq, Repr

/-- A request answered without effect (R169). -/
def refuse (status : Status) (payload : List Byte) (s : State) : State × Reply := (s, { status := status, payload := payload })

/-- A request carried out (R171). -/
def accept (payload : List Byte) (s : State) : State × Reply := (s, { status := .ok, payload := payload })

/-- A request refused with a field number (R170). -/
def badField (n : Nat) (s : State) : State × Reply := refuse .badValue (encU 1 n) s

/-- The start of a taking (R147, R169): the request leaves the intake and the response claim is set. -/
def beginTaking (rest : List Request) (s : State) : State :=
  (s.withMgmt { s.mgmt with intake := rest }).withQueue { s.queue with responseClaim := responseSpace }

/-- The RESPONSE record of a taking (R170, R198). -/
def responseOf (r : Request) (stamp : Nat) (reply : Reply) (s : State) : ResponseRecord :=
  { tag := r.tag
    kind := r.kind
    status := reply.status
    time := reply.stamp.getD stamp
    takenCount := inc32 s.mgmt.taken
    payload := reply.payload }

/-- The end of a taking (R147, R169): the claim becomes 0, the RESPONSE joins the control list, the holder is served, and the
unit's own figures follow. -/
def finishTaking (r : Request) (stamp : Nat) (t : State × Reply) : State :=
  let s := t.1
  let response := responseOf r stamp t.2 s
  let s1 := s.withQueue (serveHolder (joinControl (.response response) { s.queue with responseClaim := 0 }))
  s1.withMgmt
    { s1.mgmt with
      taken := inc32 s1.mgmt.taken
      refused := if t.2.status = .ok then s1.mgmt.refused else inc32 s1.mgmt.refused
      lastTaken := some ⟨r.tag, r.kind, t.2.status⟩ }

/-- Whether the queue has room for a taking (R168): the claims of the holder are not subtracted. -/
def roomToTake (s : State) : Bool := decide (responseSpace ≤ freeSpace s.queue)

/-- The taking of the oldest request of the intake, when it is of a kind and there is room (R168, R169). With no such request,
or no room, the unit takes none and nothing happens (log 3). -/
def takeRequest (isKind : Nat → Bool) (body : List Byte → State → State × Reply) (s : State) : State :=
  match s.mgmt.intake with
  | [] => s
  | r :: rest =>
    if isKind r.kind.toNat && roomToTake s then
      endEvent (finishTaking r s.run.timebase (body r.payload (beginTaking rest s)))
    else s

/-- The taking of a request of one kind code (R198). -/
def takeKind (code : Nat) (body : List Byte → State → State × Reply) (s : State) : State :=
  takeRequest (fun k => k == code) body s

/-- A body whose request has a payload of a fixed length (R169, R198). -/
def withLength (n : Nat) (body : List Byte → State → State × Reply) (payload : List Byte) (s : State) : State × Reply :=
  if payload.length = n then body payload s else refuse .malformed [] s

/-- Whether a kind is one of the twenty-six (R198). -/
def definedKind (k : Nat) : Bool := decide (1 ≤ k) && decide (k ≤ 26)

/-- BAD_KIND (R169): a request of an undefined kind is taken. -/
def execBadKind (s : State) : Host.Outcome State Fault Refusal :=
  .next (takeRequest (fun k => !definedKind k) (fun _ s => refuse .badKind [] s) s)

/-! ### IDENTIFY, SET TIME, SET LEVEL FLOOR, ACK FAULT -/

/-- The identification content (R178). -/
def identification : List Byte :=
  encU 2 4418 ++ encU 2 1283 ++ encU 1 3 ++ encU 2 3 ++ encU 2 contextCapacity ++ encU 2 cellCount ++ encU 2 512
    ++ encU 2 64 ++ encU 2 markerCapacity ++ encU 4 queueCapacity ++ encU 4 dataCapacity ++ encU 2 4

/-- IDENTIFY (R178). -/
def execIdentify (s : State) : Host.Outcome State Fault Refusal :=
  .next (takeKind 1 (withLength 0 fun _ s => accept identification s) s)

/-- SET TIME (R19): the timebase takes the carried value, and the replaced one is returned. Which of the two the response's time
is, is free (log 8). -/
def setTime (payload : List Byte) (s : State) : State × Reply :=
  let old := s.run.timebase
  let new := fieldU 0 4 payload
  (s.withRun { s.run with timebase := new },
    { status := .ok, payload := encU 4 old, stamp := if Config.setTimeStampsNew then some new else none })

/-- SET_TIME (R19). -/
def execSetTime (s : State) : Host.Outcome State Fault Refusal :=
  .next (takeKind 2 (withLength 4 setTime) s)

/-- SET LEVEL FLOOR (R161). -/
def setLevelFloor (payload : List Byte) (s : State) : State × Reply :=
  let floor := fieldU 0 1 payload
  if 5 < floor then badField 1 s
  else
    let level := max s.queue.level floor
    accept (encU 1 level) (s.withQueue { s.queue with floor := floor, level := level })

/-- SET_LEVEL_FLOOR (R161). -/
def execSetLevelFloor (s : State) : Host.Outcome State Fault Refusal :=
  .next (takeKind 25 (withLength 1 setLevelFloor) s)

/-- What ACK FAULT answers of a slot (R194). -/
def slotAnswer (slot : Slot) : List Byte :=
  encB slot.lock ++ encU 1 slot.lost ++ encKind (slot.record.map FaultRecord.kind)

/-- A slot acknowledged (R194): lock cleared, lost count 0, record kept. -/
def acknowledge (slot : Slot) : Slot := { slot with lock := false, lost := 0 }

/-- ACK FAULT (R194). -/
def ackFault (payload : List Byte) (s : State) : State × Reply :=
  match fieldU 0 1 payload with
  | 1 => accept (slotAnswer s.faults.hard) (s.withFaults { s.faults with hard := acknowledge s.faults.hard })
  | 2 => accept (slotAnswer s.faults.soft) (s.withFaults { s.faults with soft := acknowledge s.faults.soft })
  | _ => badField 1 s

/-- ACK_FAULT (R194). -/
def execAckFault (s : State) : Host.Outcome State Fault Refusal :=
  .next (takeKind 26 (withLength 1 ackFault) s)

/-! ### The staging record -/

/-- The part count of a target (R172). -/
def partCount : StagingTarget → Nat
  | .envelope _ => 4
  | .calibration _ => 1

/-- A part, where it is filled. -/
def partAt (st : Staging) (k : Nat) : Option PartData := (st.parts.find? fun e => e.1 == k).map Prod.snd

/-- The part-filled set as its bits (R196). -/
def filledBits (st : Staging) : Nat := (st.parts.map fun e => 2 ^ e.1).sum

/-- A target as answered: kind and id (R174, R176, R177). -/
def targetAnswer (t : StagingTarget) : List Byte := encU 1 (targetKindCode t) ++ encU 1 (targetId t)

/-- The target of a kind code and an id, or the number of the field out of range (R174). -/
def targetOf (kind id : Nat) : StagingTarget ⊕ Nat :=
  match kind with
  | 1 => if id ≤ 63 then .inl (.envelope id) else .inr 2
  | 2 =>
    match headOf id with
    | some h => .inl (.calibration h)
    | none => .inr 2
  | _ => .inr 1

/-- STAGE OPEN (R174). -/
def stageOpen (payload : List Byte) (s : State) : State × Reply :=
  match targetOf (fieldU 0 1 payload) (fieldU 1 1 payload) with
  | .inr n => badField n s
  | .inl t =>
    match s.mgmt.staging with
    | some st => refuse .conflict (targetAnswer st.target ++ encU 1 (filledBits st)) s
    | none =>
      if frozen s.run.runState then refuse .frozen [] s
      else accept (encU 1 (partCount t)) (s.withMgmt { s.mgmt with staging := some { target := t } })

/-- STAGE_OPEN (R174). -/
def execStageOpen (s : State) : Host.Outcome State Fault Refusal :=
  .next (takeKind 5 (withLength 2 stageOpen) s)

/-- The payload length of a part of a target, part index included (R198). -/
def partLength (t : StagingTarget) (k : Nat) : Nat :=
  match t with
  | .envelope _ => if k = 0 then 131 else 129
  | .calibration _ => 36

/-- The content of a part as carried (R172, R198). -/
def partContent (t : StagingTarget) (k : Nat) (payload : List Byte) : PartData :=
  match t with
  | .envelope _ =>
    if k = 0 then .limits (some (fieldU 1 2 payload)) (fieldsU 3 4 32 payload)
    else .limits none (fieldsU 1 4 32 payload)
  | .calibration _ => .knots (fieldsI 1 2 17 payload) (fieldU 35 1 payload)

/-- A part written whole (R175), the parts kept in index order. -/
def insertPart (k : Nat) (d : PartData) : List (Nat × PartData) → List (Nat × PartData)
  | [] => [(k, d)]
  | (i, e) :: rest =>
    if k < i then (k, d) :: (i, e) :: rest
    else if k = i then (k, d) :: rest
    else (i, e) :: insertPart k d rest

/-- STAGE PART (R175). -/
def stagePart (payload : List Byte) (s : State) : State × Reply :=
  if payload.isEmpty then refuse .malformed [] s
  else
    match s.mgmt.staging with
    | none => refuse .notStaged [] s
    | some st =>
      let k := fieldU 0 1 payload
      if partCount st.target ≤ k then badField 1 s
      else if payload.length ≠ partLength st.target k then refuse .malformed [] s
      else
        let st1 : Staging := { st with parts := insertPart k (partContent st.target k payload) st.parts }
        accept (encU 1 (filledBits st1)) (s.withMgmt { s.mgmt with staging := some st1 })

/-- STAGE_PART (R175). -/
def execStagePart (s : State) : Host.Outcome State Fault Refusal :=
  .next (takeKind 6 stagePart s)

/-- The lowest part of a target that is missing (R176). -/
def missingPart (st : Staging) : Option Nat := (List.range (partCount st.target)).find? fun k => (partAt st k).isNone

/-- The largest sector limit (R90). -/
def maxLimit : Nat := 200000

/-- The largest centre height (R90). -/
def maxCentreHeight : Nat := 60000

/-- The item of the first value of a part that is out of range (R176): the centre height as 128, then limits by sector, or
knots by number. -/
def badItem (k : Nat) : PartData → Option Nat
  | .limits centre limits =>
    if maxCentreHeight < centre.getD 0 then some 128
    else (limits.findIdx? fun l => decide (maxLimit < l)).map fun i => 32 * k + i
  | .knots knots _ => knots.findIdx? fun o => !inRange (-2000) 2000 o

/-- The part and item of the first value out of range, the parts in index order (R176). -/
def badValueOf : List (Nat × PartData) → Option (Nat × Nat)
  | [] => none
  | (k, d) :: rest =>
    match badItem k d with
    | some i => some (k, i)
    | none => badValueOf rest

/-- The limits of the staged parts, in sector order (R91). -/
def stagedLimits : List (Nat × PartData) → List Nat
  | [] => []
  | (_, .limits _ limits) :: rest => limits ++ stagedLimits rest
  | (_, .knots _ _) :: rest => stagedLimits rest

/-- The staged centre height (R91). -/
def stagedCentre : List (Nat × PartData) → Nat
  | [] => 0
  | (_, .limits (some c) _) :: _ => c
  | (_, .limits none _) :: rest => stagedCentre rest
  | (_, .knots _ _) :: rest => stagedCentre rest

/-- The staged calibration table (R58). -/
def stagedCalibration : List (Nat × PartData) → Calibration
  | [] => {}
  | (_, .knots knots floor) :: _ => { defined := true, knots := knots, intensityFloor := floor }
  | (_, .limits _ _) :: rest => stagedCalibration rest

/-- The target installed (R58, R91). -/
def installTarget (st : Staging) (s : State) : State :=
  match st.target with
  | .envelope j =>
    s.withRoute { s.route with
      envelopes := tableSet {} s.route.envelopes j
        { defined := true, centreHeight := stagedCentre st.parts, limits := stagedLimits st.parts } }
  | .calibration h =>
    s.withCorrector h { s.correctors.get h with calibration := stagedCalibration st.parts }

/-- STAGE COMMIT (R176). -/
def stageCommit (_payload : List Byte) (s : State) : State × Reply :=
  match s.mgmt.staging with
  | none => refuse .notStaged [] s
  | some st =>
    match missingPart st with
    | some k => refuse .incomplete (encU 1 k) s
    | none =>
      match badValueOf st.parts with
      | some (k, i) => refuse .badValue (encU 1 k ++ encU 1 i) s
      | none =>
        if frozen s.run.runState then refuse .frozen [] s
        else
          let s1 := installTarget st s
          accept (targetAnswer st.target) (s1.withMgmt { s1.mgmt with staging := none })

/-- STAGE_COMMIT (R176). -/
def execStageCommit (s : State) : Host.Outcome State Fault Refusal :=
  .next (takeKind 7 (withLength 0 stageCommit) s)

/-- STAGE DISCARD (R177). -/
def stageDiscard (_payload : List Byte) (s : State) : State × Reply :=
  match s.mgmt.staging with
  | none => refuse .notStaged [] s
  | some st =>
    accept (targetAnswer st.target ++ encU 1 (filledBits st)) (s.withMgmt { s.mgmt with staging := none })

/-- STAGE_DISCARD (R177). -/
def execStageDiscard (s : State) : Host.Outcome State Fault Refusal :=
  .next (takeKind 8 (withLength 0 stageDiscard) s)

end Sys2Proof.Machine
end

