-- ==== Sys2Proof/Machine/Odometry.lean ====
section
/-! DEFINITION. The Odometry Unit: encoder transitions (R61), the interval and its nine stages (R62 to R71, R76, R77), and
marker detections with recalibration (R72 to R75). -/

namespace Sys2Proof.Machine

/-! ### Encoders -/

/-- The place of a pair of line levels in the forward order (low, low), (low, high), (high, high), (high, low) (section 4.2). -/
def quadraturePlace (p1 p2 : Bool) : Nat :=
  match p1, p2 with
  | false, false => 0
  | false, true => 1
  | true, true => 2
  | true, false => 3

/-- The pending count kept within its range (R61). -/
def satPending (n : Int) : Int := max (-8388608) (min 8388607 n)

/-- A change of level on a wheel's encoder lines (R61). Levels that do not differ from those held are no transition (log 3). -/
def encoderStep (p1 p2 : Bool) (w : WheelRecord) : WheelRecord :=
  let w1 := { w with phase1 := p1, phase2 := p2 }
  if p1 = w.phase1 ∧ p2 = w.phase2 then w
  else if p1 ≠ w.phase1 ∧ p2 ≠ w.phase2 then { w1 with illegal := inc32 w.illegal }
  else if (quadraturePlace w.phase1 w.phase2 + 1) % 4 = quadraturePlace p1 p2 then
    { w1 with pending := satPending (w.pending + 1) }
  else { w1 with pending := satPending (w.pending - 1) }

/-- An encoder transition at a wheel (R61). -/
def encoderAt (w : Wheel) (p1 p2 : Bool) (o : Odometry) : Odometry :=
  match w with
  | .a => { o with a := encoderStep p1 p2 o.a }
  | .b => { o with b := encoderStep p1 p2 o.b }

/-- ENCODER_TRANSITION (R61). -/
def execEncoderTransition (w : Wheel) (phase1 phase2 : Bool) (s : State) : Host.Outcome State Fault Refusal :=
  .next (endEvent (s.withOdo (encoderAt w phase1 phase2 s.odo)))

/-! ### Stages 1 and 2 -/

/-- The travel of a wheel's counts in whole dmm (R64). -/
def wheelTravel (remainder : Nat) (n : Int) (scale : Nat) : Int := (remainder + n * scale) / 65536

/-- The remainder that the counts leave (R64). -/
def wheelRemainder (remainder : Nat) (n : Int) (scale : Nat) : Nat := ((remainder + n * scale) % 65536).toNat

/-- A wheel's silent travel after an interval (R65): 0 when the wheel gave counts, else increased by the other's travel. -/
def silentAfter (silent : Nat) (n other : Int) : Nat :=
  if n ≠ 0 then 0 else satAdd count32 silent other.natAbs

/-- Stage 1 (R64) and the update of the silent travels (R65). -/
def travelWheels (nA nB dA dB : Int) (o : Odometry) : Odometry :=
  { o with
    a := { o.a with
      remainder := wheelRemainder o.a.remainder nA o.settings.scaleA
      silentTravel := silentAfter o.a.silentTravel nA dB }
    b := { o.b with
      remainder := wheelRemainder o.b.remainder nB o.settings.scaleB
      silentTravel := silentAfter o.b.silentTravel nB dA } }

/-- Whether a wheel becomes LOST (R65): PRESENT, and its silent travel has reached the loss distance. -/
def becomesLost (o : Odometry) (w : WheelRecord) : Bool :=
  w.status == .present && decide (o.settings.lossDistance ≤ w.silentTravel)

/-- Wheel A is judged for loss (R65); wheel B, if LOST, becomes PRESENT. -/
def judgeLossA (s : State) : State :=
  let o := s.odo
  if becomesLost o o.a then
    raiseSoft (.wheel .a) (.wheelLost o.a.silentTravel o.b.status)
      (s.withOdo
        { o with
          a := { o.a with status := .lost, silentTravel := 0 }
          b := { o.b with status := .present }
          agreement := 0 })
  else s

/-- Wheel B is judged for loss (R65); wheel A, if LOST, becomes PRESENT. -/
def judgeLossB (s : State) : State :=
  let o := s.odo
  if becomesLost o o.b then
    raiseSoft (.wheel .b) (.wheelLost o.b.silentTravel o.a.status)
      (s.withOdo
        { o with
          b := { o.b with status := .lost, silentTravel := 0 }
          a := { o.a with status := .present }
          agreement := 0 })
  else s

/-- Whether an interval agrees (R66). -/
def intervalAgrees (nA nB dA dB : Int) : Bool :=
  decide (nA ≠ 0) && decide (nB ≠ 0) && decide (dB.natAbs ≤ 2 * dA.natAbs) && decide (dA.natAbs ≤ 2 * dB.natAbs)

/-- Whether both wheels are PRESENT. -/
def bothPresent (o : Odometry) : Bool := o.a.status == .present && o.b.status == .present

/-- The restoration of a LOST wheel (R66). -/
def restoreWheels (nA nB dA dB : Int) (o : Odometry) : Odometry :=
  if bothPresent o then o
  else if intervalAgrees nA nB dA dB then
    if 8 ≤ o.agreement + 1 then
      { o with
        a := { o.a with status := .present, silentTravel := 0 }
        b := { o.b with status := .present, silentTravel := 0 }
        agreement := 0
        slipFilter := 0
        filterMode := .normal }
    else { o with agreement := o.agreement + 1 }
  else { o with agreement := 0 }

/-! ### Stages 3 and 4 -/

/-- The slip filter after an interval (R67). -/
def slipAfter (f d w : Nat) : Nat := min 16777215 ((f : Int) + (256 * (d : Int) - f) / (2 ^ w : Nat)).toNat

/-- Stage 3 (R67). -/
def filterSlip (dA dB : Int) (s : State) : State :=
  let o := s.odo
  if bothPresent o then
    let d := (dA - dB).natAbs
    let f := slipAfter o.slipFilter d o.settings.weight
    match o.filterMode with
    | .normal =>
      if 256 * o.settings.slipThreshold ≤ f then
        raiseSoft .odometry (.slip f d dA dB) (s.withOdo { o with slipFilter := f, filterMode := .slip })
      else s.withOdo { o with slipFilter := f }
    | .slip =>
      if f < 128 * o.settings.slipThreshold then s.withOdo { o with slipFilter := f, filterMode := .normal }
      else s.withOdo { o with slipFilter := f }
  else s

/-- The step of the interval (R68). -/
def stepOf (dA dB : Int) (o : Odometry) : Int :=
  match o.a.status, o.b.status with
  | .lost, _ => dB
  | .present, .lost => dA
  | .present, .present =>
    match o.filterMode with
    | .normal => rnd (dA + dB) 2
    | .slip => if dA.natAbs < dB.natAbs then dB else dA

/-- The published odometry mode (R68). -/
def modeOf (o : Odometry) : OdoMode :=
  if bothPresent o then
    match o.filterMode with
    | .normal => .normal
    | .slip => .slip
  else .single

/-! ### Stages 5 to 7 -/

/-- A chainage moved by a step in the run direction (R70). -/
def advance (d : Direction) (c step : Int) : Int :=
  match d with
  | .up => satChainage (c + step)
  | .down => satChainage (c - step)

/-- The debounce travel after a step (R63, stage 6). -/
def debounceAfter (t : Option Nat) (step : Int) : Option Nat := t.map fun n => satAdd 5000 n step.natAbs

/-- Stages 5 and 6 (R69, R70) for a step. -/
def moveChainage (d : Direction) (step : Int) (o : Odometry) : Odometry :=
  let applied := clampAbs o.settings.slewLimit o.r
  let c := satChainage (advance d o.c step + applied)
  let h := satChainage (o.h + applied)
  { o with
    r := o.r - applied
    c := c
    h := if beyond d c h then c else h
    u := satChainage (o.u + step)
    debounce := debounceAfter o.debounce step }

/-- Stage 7 (R71). -/
def checkReversal (s : State) : State :=
  let o := s.odo
  let behind := (o.h - o.c).natAbs
  if beyond s.run.params.direction o.h o.c && decide (o.settings.reversalTolerance < behind) && !o.reversed then
    raiseSoft .odometry (.reversal o.h behind) (s.withOdo { o with reversed := true })
  else if o.c = o.h then s.withOdo { o with reversed := false }
  else s

/-! ### Stages 8 and 9 -/

/-- Whether H, moving from `h0` to `h1`, crosses the threshold of an UNSEEN marker (R76). -/
def crossed (d : Direction) (window : Nat) (h0 h1 : Int) (m : Marker) : Bool :=
  m.status == .unseen &&
    match d with
    | .up => decide (h0 ≤ m.position + window) && decide (m.position + window < h1)
    | .down => decide (h1 < m.position - window) && decide (m.position - window ≤ h0)

/-- One marker becomes MISSED (R76). -/
def missMarker (s : State) (m : Marker) : State :=
  raiseSoft .odometry (.missedMarker m.position m.label s.odo.h)
    ((s.withRoute { s.route with markers := setMarkerStatus m.position .missed s.route.markers }
      ).withCounters { s.run.counters with markersMissed := inc32 s.run.counters.markersMissed })

/-- The markers whose thresholds H has crossed, in the order in which it passed them (R76). -/
def crossedMarkers (s : State) (h0 : Int) : List Marker :=
  let d := s.run.params.direction
  let ms := s.route.markers.filter (crossed d s.odo.settings.captureWindow h0 s.odo.h)
  match d with
  | .up => ms
  | .down => ms.reverse

/-- Stage 8 (R76), `h0` being H before stage 5. -/
def scanMissed (h0 : Int) (s : State) : State := (crossedMarkers s h0).foldl missMarker s

/-- The index of the last trigger point that H has reached (R77), negative or 0 when none. -/
def reachedIndex (p : RunParams) (h : Int) (pitch : Nat) : Int :=
  match p.direction with
  | .up => (h - p.origin) / pitch
  | .down => (p.origin - h) / pitch

/-- The pulses that a movement of H gives (R77): one for each trigger point from the next index to the last one reached. -/
def cameraPulses (p : RunParams) (o : Odometry) : Nat :=
  if o.settings.cameraPitch = 0 then 0
  else (reachedIndex p o.h o.settings.cameraPitch - o.cameraNext + 1).toNat

/-- The camera line is driven to a level; a rise from idle begins a pulse, which the model counts (log 22). -/
def driveCamera (level : LineLevel) (c : CameraLine) : CameraLine :=
  { level := level, pulses := if c.level = .idle ∧ level = .active then c.pulses + 1 else c.pulses }

/-- One pulse of the camera line, which is idle again after it (R77). -/
def pulseCamera (c : CameraLine) : CameraLine := driveCamera .idle (driveCamera .active c)

/-- Pulses of the camera line, one after another (R77). -/
def pulseTimes : Nat → CameraLine → CameraLine
  | 0, c => c
  | k + 1, c => pulseTimes k (pulseCamera c)

/-- Stage 9 (R77). -/
def triggerCamera (p : RunParams) (o : Odometry) : Odometry :=
  let k := cameraPulses p o
  { o with
    camera := pulseTimes k o.camera
    cameraFrames := wrap32 (o.cameraFrames + k)
    cameraNext := o.cameraNext + k }

/-! ### The interval -/

/-- The nine stages (R63) on the taken counts. -/
def integrate (nA nB : Int) (s : State) : State :=
  let o := s.odo
  let dA := wheelTravel o.a.remainder nA o.settings.scaleA
  let dB := wheelTravel o.b.remainder nB o.settings.scaleB
  let s1 := judgeLossB (judgeLossA (s.withOdo (travelWheels nA nB dA dB o)))
  let s2 := filterSlip dA dB (s1.withOdo (restoreWheels nA nB dA dB s1.odo))
  let step := stepOf dA dB s2.odo
  let s3 := s2.withOdo (moveChainage s2.run.params.direction step { s2.odo with mode := modeOf s2.odo })
  let s4 := scanMissed o.h (checkReversal s3)
  s4.withOdo (triggerCamera s4.run.params s4.odo)

/-- The pending counts taken and the interval timer restarted (R62). -/
def takeCounts (o : Odometry) : Odometry :=
  { o with
    a := { o.a with pending := 0 }
    b := { o.b with pending := 0 }
    interval := startMs o.settings.interval }

/-- Both wheel remainders 0 (R62, ARMED). -/
def clearRemainders (o : Odometry) : Odometry :=
  { o with a := { o.a with remainder := 0 }, b := { o.b with remainder := 0 } }

/-- The interval timer expires (R62). -/
def intervalExpires (s : State) : State :=
  let s1 := s.withOdo (takeCounts s.odo)
  match s.run.runState with
  | .running => integrate s.odo.a.pending s.odo.b.pending s1
  | .draining => integrate s.odo.a.pending s.odo.b.pending s1
  | .armed => s1.withOdo (clearRemainders s1.odo)
  | .unarmed => s1
  | .ended => s1
  | .halted => s1

/-- ODOMETRY_INTERVAL_EXPIRY (R62, R63). -/
def execOdometryIntervalExpiry (s : State) : Host.Outcome State Fault Refusal :=
  .next (if timerExpires s.odo.interval then endEvent (intervalExpires s) else s)

/-! ### Markers -/

/-- The candidate wheel scale of a recalibration (R75). -/
def candidateScale (scale delta : Nat) (u : Int) : Nat := scale * delta / u.toNat

/-- Whether a candidate lies within the permitted change and the range of a scale (R75). -/
def candidateGood (scale candidate : Nat) : Bool :=
  decide ((candidate : Int) - scale ≤ (scale * 2 / 100 : Nat)) && decide ((scale : Int) - candidate ≤ (scale * 2 / 100 : Nat))
    && decide (32768 ≤ candidate) && decide (candidate ≤ 1310720)

/-- The recalibration made over a distance Δ (R75). -/
def recalibrate (label delta : Nat) (s : State) : State :=
  let o := s.odo
  let oldA := o.settings.scaleA
  let oldB := o.settings.scaleB
  if o.u ≤ 0 then raiseSoft .odometry (.recalRefused label delta o.u oldA oldB none) s
  else
    let newA := candidateScale oldA delta o.u
    let newB := candidateScale oldB delta o.u
    if candidateGood oldA newA && candidateGood oldB newB then
      offerEvent (makeEvent s .odometry (.recalibrated label delta o.u oldA oldB newA newB))
        (s.withOdo { o with settings := { o.settings with scaleA := newA, scaleB := newB } })
    else raiseSoft .odometry (.recalRefused label delta o.u oldA oldB (some (newA, newB))) s

/-- Whether a recalibration is made at a match, and over which distance (R75). -/
def judgeRecalibration (m : Marker) (s : State) : State :=
  match s.odo.lastMatched with
  | none => s
  | some prev =>
    let delta := (m.position - prev.position).natAbs
    if s.odo.settings.recalEnable && decide (s.odo.settings.recalBaseline ≤ delta) then recalibrate m.label delta s
    else s

/-- An UNSEEN marker is matched (R74). -/
def matchMarker (m : Marker) (s : State) : State :=
  let o := s.odo
  let s1 := ((s.withOdo { o with r := clampAbs o.settings.captureWindow (o.r + (m.position - o.c)) }
    ).withRoute { s.route with markers := setMarkerStatus m.position .matched s.route.markers }
    ).withCounters { s.run.counters with markersMatched := inc32 s.run.counters.markersMatched }
  let s2 := judgeRecalibration m s1
  s2.withOdo { s2.odo with lastMatched := some ⟨m.position, m.label⟩, u := 0 }

/-- The candidates of a detection (R73): the markers within the capture window of C. -/
def detectionCandidates (s : State) : List Marker :=
  s.route.markers.filter fun m => decide ((m.position - s.odo.c).natAbs ≤ s.odo.settings.captureWindow)

/-- The marker that a detection chooses (R73): the nearest, of two equally near the one ahead in the run direction. -/
def chosenMarker (s : State) : Option Marker :=
  nearestMarker s.odo.c (s.run.params.direction == .up) (detectionCandidates s)

/-- The search of a taken detection (R73). -/
def searchMarkers (s : State) : State :=
  match chosenMarker s with
  | none =>
    raiseSoft .odometry (.unknownMarker s.odo.settings.captureWindow)
      (s.withCounters { s.run.counters with markersUnknown := inc32 s.run.counters.markersUnknown })
  | some m =>
    match m.status with
    | .unseen => matchMarker m s
    | .matched => raiseSoft .odometry (.repeatMarker m.position m.label .matched) s
    | .missed => raiseSoft .odometry (.repeatMarker m.position m.label .missed) s

/-- Whether a detection is debounced (R72). -/
def isDebounced (t : Option Nat) : Bool :=
  match t with
  | none => false
  | some n => decide (n < 5000)

/-- A marker detection (R72). -/
def detectMarker (s : State) : State :=
  let o := s.odo
  if !inSurvey s.run.runState then s.withOdo { o with ignored := inc32 o.ignored }
  else if isDebounced o.debounce then s.withOdo { o with debounced := inc32 o.debounced }
  else searchMarkers (s.withOdo { o with taken := inc32 o.taken, debounce := some 0 })

/-- MARKER_DETECTION (R72 to R75). -/
def execMarkerDetection (s : State) : Host.Outcome State Fault Refusal :=
  .next (endEvent (detectMarker s))

end Sys2Proof.Machine
end

