-- ==== Sys2Proof/Machine/Corrector.lean ====
section
/-! DEFINITION. The Sample Corrector: the six stages of R41 (R42 to R53), its counters (R56), and the taking of a passed
slice with the Assembler's placement (R40, R110, R111) and the hand-on (R54, R55). -/

namespace Sys2Proof.Machine

/-- What corrects one slice (R40): the class, pose, calibration and mask of its port, and the centre height of its context. -/
structure CorrectionSetup where
  cls : HeadClass
  yh : Int
  zh : Int
  phi : Nat
  calibration : Calibration
  mask : BitVec 64
  centreHeight : Nat
  deriving DecidableEq, Repr

/-- The occlusion block of an angle index (R43). -/
def occlusionBlock (n a : Nat) : Nat := a * 64 / n

/-- Stage 1 (R42): the reason for which a sample is discarded, none when it is admitted. -/
def classifyRaw (k : CorrectionSetup) (a : Nat) (x : Sample) : Option SampleDiscard :=
  if x.raw = 0 then some .noReturn
  else if k.cls.maxRaw < x.raw then some .saturated
  else if x.intensity < k.calibration.intensityFloor then some .weak
  else if k.mask.getLsbD (occlusionBlock k.cls.samples a) then some .occluded
  else none

/-- Stage 3 (R45): the corrected range. -/
def correctedRange (knots : List Int) (rt : Nat) : Int :=
  let k := min (rt / 10000) 15
  let f := rt - 10000 * k
  (rt : Int) + (knots.getD k 0 + rnd ((knots.getD (k + 1) 0 - knots.getD k 0) * f) 10000)

/-- Stage 4 (R48): the sine table index of an angle index. -/
def tableIndex (k : CorrectionSetup) (a : Nat) : Nat := (a * k.cls.step + k.phi) % 65536 / 16

/-- Stages 5 and 6 (R49, R51 to R53) for a corrected range and a table index. -/
def placePoint (k : CorrectionSetup) (rc : Int) (q : Nat) (intensity : Nat) : SampleResult :=
  let y := k.yh + rnd (rc * cosine q) 32768
  let z := k.zh + rnd (rc * sine q) 32768
  let dz := z - k.centreHeight
  if y = 0 ∧ dz = 0 then .discarded .centre
  else
    let radius := isqrt (y * y + dz * dz).toNat
    if 205000 < radius then .discarded .far else .accepted ⟨sectorOf y dz, radius, y, z, intensity⟩

/-- The course of one sample (R41). -/
def correctSample (k : CorrectionSetup) (a : Nat) (x : Sample) : SampleResult :=
  match classifyRaw k a x with
  | some reason => .discarded reason
  | none =>
    let rc := correctedRange k.calibration.knots (x.raw * k.cls.unit)
    if rc ≤ 0 then .discarded .invalid else placePoint k rc (tableIndex k a) x.intensity

/-- The courses of samples from angle index `a` on (R41). -/
def correctFrom (k : CorrectionSetup) : Nat → List Sample → List SampleResult
  | _, [] => []
  | a, x :: rest => correctSample k a x :: correctFrom k (a + 1) rest

/-- The accepted points, in increasing angle index. -/
def acceptedPoints : List SampleResult → List CorrectedPoint
  | [] => []
  | .accepted p :: rest => p :: acceptedPoints rest
  | .discarded _ :: rest => acceptedPoints rest

/-- The Corrector's counters after one sample (R41, R56). -/
def countSample (c : Corrector) (r : SampleResult) : Corrector :=
  let c1 := { c with examined := inc32 c.examined }
  match r with
  | .accepted _ => { c1 with accepted := inc32 c1.accepted }
  | .discarded .noReturn => { c1 with noReturn := inc32 c1.noReturn }
  | .discarded .saturated => { c1 with saturated := inc32 c1.saturated }
  | .discarded .weak => { c1 with weak := inc32 c1.weak }
  | .discarded .occluded => { c1 with occluded := inc32 c1.occluded }
  | .discarded .invalid => { c1 with invalid := inc32 c1.invalid }
  | .discarded .centre => { c1 with centre := inc32 c1.centre }
  | .discarded .far => { c1 with far := inc32 c1.far }

/-- The setup for a slice of a head whose context has a route copy (R40, R50). -/
def correctionSetup (s : State) (p : HeadId) (copy : RouteCopy) : CorrectionSetup :=
  let port := s.ports.get p
  let cor := s.correctors.get p
  { cls := headClass port.classCode
    yh := port.yh
    zh := port.zh
    phi := port.phi
    calibration := cor.calibration
    mask := cor.mask
    centreHeight := centreHeightOf s.run.params copy }

/-! ### A passed slice -/

/-- A slice discarded by the Assembler (R110): only its head's count for the reason changes. -/
def discardSlice (p : HeadId) (f : SliceDiscards → SliceDiscards) (s : State) : State :=
  s.withAssembler { s.assembler with discards := s.assembler.discards.set p (f (s.assembler.discards.get p)) }

/-- The REVERSED count rises by 1 (R110). -/
def countReversed (d : SliceDiscards) : SliceDiscards := { d with reversed := inc32 d.reversed }

/-- The BEFORE_START count rises by 1 (R110). -/
def countBeforeStart (d : SliceDiscards) : SliceDiscards := { d with beforeStart := inc32 d.beforeStart }

/-- The LATE count rises by 1 (R110, R111). -/
def countLate (d : SliceDiscards) : SliceDiscards := { d with late := inc32 d.late }

/-- The end of a placed slice's event: the point list (R55), the progress test (R120) and the halt decision (R192), in one of
the orders that R156 leaves open. `r` is the state after the hand-on, with whether the event has lost an INTRUSION record. -/
def finishSlice (turn : PointsTurn) (sl : PassedSlice) (points : List CorrectedPoint) (r : State × Bool) : State :=
  match turn with
  | .beforeClosures =>
    let t := progressTest (offerPoints sl points r.1)
    decideHalt (t.1, r.2 || t.2)
  | .beforeHaltDecision =>
    let t := progressTest r.1
    decideHalt (offerPoints sl points t.1, r.2 || t.2)
  | .afterHaltDecision =>
    let t := progressTest r.1
    offerPoints sl points (decideHalt (t.1, r.2 || t.2))

/-- The context of station `j` takes a slice (R113), and the Corrector carries its samples (R41) and hands them on (R54). -/
def feedSlice (j : Nat) (sl : PassedSlice) (results : List SampleResult) (s : State) : State :=
  let s1 := changeContext j (fun c =>
    accumulate sl.head (acceptedPoints results) (feedContext s.run.params s.odo.mode sl c)) s
  let s2 := s1.withAssembler
    { s1.assembler with
      lastStation := s1.assembler.lastStation.set sl.head (raiseStation j (s1.assembler.lastStation.get sl.head)) }
  s2.withCorrector sl.head (results.foldl countSample (s2.correctors.get sl.head))

/-- A slice placed at station `j`, whose context is open in `r.1` (R40, R113, R54, R55). -/
def placeSlice (turn : PointsTurn) (j : Nat) (sl : PassedSlice) (r : State × Bool) : State :=
  match contextFor j r.1 with
  | none => r.1
  | some c =>
    let results := correctFrom (correctionSetup r.1 sl.head c.copy) sl.start sl.samples
    finishSlice turn sl (acceptedPoints results) (feedSlice j sl results r.1, r.2)

/-- A slice that passes R110, at station `j` (R111): taken by its open context, by a new one, by a new one after the oldest is
closed FORCED, or refused as LATE. -/
def arriveAt (turn : PointsTurn) (j : Nat) (sl : PassedSlice) (s : State) : State :=
  match contextFor j s with
  | some _ => placeSlice turn j sl (s, false)
  | none =>
    if s.assembler.contexts.length < contextCapacity then placeSlice turn j sl (openContext j s, false)
    else
      match s.assembler.contexts with
      | [] => s
      | oldest :: _ =>
        if oldest.station < j then
          let r := closeContext (some .forced) oldest s
          placeSlice turn j sl (openContext j r.1, r.2)
        else discardSlice sl.head countLate s

/-- A passed slice arrives at the Assembler (R110). -/
def arriveSlice (turn : PointsTurn) (sl : PassedSlice) (s : State) : State :=
  let j := stationOf s.run.params sl.chainage
  if s.odo.reversed then discardSlice sl.head countReversed s
  else if j < 0 then discardSlice sl.head countBeforeStart s
  else if j < s.assembler.closedLine then discardSlice sl.head countLate s
  else arriveAt turn j.toNat sl s

/-- A passed slice with the free choice of R156 drawn for it (log 7). -/
def deliverSlice (sl : PassedSlice) (s : State) : State :=
  arriveSlice (Config.pointsTurn s.choices) sl (s.withChoices (s.choices + 1))

end Sys2Proof.Machine
end

