-- ==== Sys2Proof/Machine/Ports.lean ====
section
/-! DEFINITION. The Head Ports: carrier (R24), frames (R21, R22), slices (R25 to R27, R31, R32), the silence timer (R28),
HEAD STATUS (R29, R30) and what a port's leaving or entering STREAMING causes in a run (R120, R188). -/

namespace Sys2Proof.Machine

/-- A port in a state whose row of R23 gives the expected index and the revolution as absent: they become absent, the
gap-reported flag is cleared, and the silence timer is stopped. -/
def idlePort (state : PortState) (port : Port) : Port :=
  { port with state := state, expected := none, revolution := none, gapReported := false, silence := none }

/-- Whether a port examines the frames of its head (R22). -/
def examinesFrames (state : PortState) : Bool :=
  match state with
  | .waiting => true
  | .streaming => true
  | .silent => true
  | .faulted => true
  | .down => false
  | .disabled => false

/-- The head-loss timer starts when no port is left STREAMING (R188). -/
def startHeadLoss (s : State) : State :=
  if anyStreaming s.ports then s
  else if s.faults.headLoss.isSome then s
  else s.withFaults { s.faults with headLoss := startMs s.run.params.headLossLimit }

/-- What a port's leaving STREAMING causes (R120, R188): in RUNNING, the head-loss timer and the progress test. -/
def afterLeaving (s : State) : State :=
  if s.run.runState = .running then decideHalt (progressTest (startHeadLoss s)) else s

/-- What a port's entering STREAMING causes (R188): in RUNNING, the head-loss timer stops. -/
def afterEntering (s : State) : State :=
  if s.run.runState = .running then s.withFaults { s.faults with headLoss := none } else s

/-- A port that had the state `before` has left STREAMING or never was in it. -/
def leftFrom (before : PortState) (s : State) : State :=
  if before = .streaming then afterLeaving s else s

/-! ### Carrier -/

/-- A port at carrier loss (R24). -/
def portCarrierLoss (port : Port) : Port :=
  { idlePort .down port with warn := false, lastStatus := none, carrierLosses := inc32 port.carrierLosses }

/-- A port at carrier gain (R24); a port that is not DOWN has its carrier already (log 3). -/
def portCarrierGain (port : Port) : Port :=
  if port.state = .down then idlePort (if port.enable then .waiting else .disabled) port else port

/-- HEAD_CARRIER_LOSS (R24). -/
def execHeadCarrierLoss (p : HeadId) (s : State) : Host.Outcome State Fault Refusal :=
  .next (endEvent (leftFrom (s.ports.get p).state (s.withPort p (portCarrierLoss (s.ports.get p)))))

/-- HEAD_CARRIER_GAIN (R24). -/
def execHeadCarrierGain (p : HeadId) (s : State) : Host.Outcome State Fault Refusal :=
  .next (endEvent (s.withPort p (portCarrierGain (s.ports.get p))))

/-! ### Frames -/

/-- The MALFORMED count rises by 1 (R33). -/
def countMalformed (p : HeadId) (s : State) : State :=
  s.withPort p { s.ports.get p with malformed := inc32 (s.ports.get p).malformed }

/-- The UNSYNCED count rises by 1 (R33). -/
def countUnsynced (p : HeadId) (s : State) : State :=
  s.withPort p { s.ports.get p with unsynced := inc32 (s.ports.get p).unsynced }

/-- A head frame whose length field is above 774 (R21). -/
def frameTooLong (p : HeadId) (s : State) : State :=
  if examinesFrames (s.ports.get p).state then countMalformed p s else s

/-- HEAD_FRAME_TOO_LONG (R21). -/
def execHeadFrameTooLong (p : HeadId) (s : State) : Host.Outcome State Fault Refusal :=
  .next (endEvent (frameTooLong p s))

/-- The first two rows of R22: a frame whose CRC-16 does not match, then one of an unknown kind. A frame that neither row
discards is no event of this row (log 3). -/
def frameDiscarded (p : HeadId) (kind : Byte) (payload : List Byte) (crc : BitVec 16) (s : State) : State :=
  if !examinesFrames (s.ports.get p).state then s
  else if headPayloadLimit < payload.length then countMalformed p s
  else if crc ≠ headCrc kind payload then
    s.withPort p { s.ports.get p with crcBad := inc32 (s.ports.get p).crcBad }
  else if kind ≠ 1#8 ∧ kind ≠ 2#8 then countMalformed p s
  else s

/-- HEAD_FRAME_DISCARDED (R22). -/
def execHeadFrameDiscarded (p : HeadId) (kind : Byte) (payload : List Byte) (crc : BitVec 16) (s : State) :
    Host.Outcome State Fault Refusal :=
  .next (endEvent (frameDiscarded p kind payload crc s))

/-! ### Slices -/

/-- The expected index after a slice (R25, R26). -/
def expectedAfter (n : Nat) (f : SliceFields) : Nat := if f.start + f.count = n then 0 else f.start + f.count

/-- An accepted slice is passed on in RUNNING (R31), stamped as R32 gives. -/
def passOn (p : HeadId) (f : SliceFields) (payload : List Byte) (s : State) : State :=
  if s.run.runState = .running then
    let port := s.ports.get p
    deliverSlice
      { head := p
        revolution := port.revolution.getD 0
        start := f.start
        samples := sliceSamples f.count payload
        arrival := s.run.timebase
        chainage := s.odo.c
        warn := port.warn
        gap := port.gapReported }
      (s.withPort p { port with passedOn := inc32 port.passedOn })
  else s

/-- A slice accepted in WAITING or SILENT (R25): the port enters STREAMING. -/
def synchronise (p : HeadId) (f : SliceFields) (s : State) : State :=
  let port := s.ports.get p
  afterEntering
    (s.withPort p
      { port with
        state := .streaming
        revolution := some f.revolution
        gapReported := false
        expected := some (expectedAfter (headClass port.classCode).samples f)
        silence := startMs port.silenceTimeout
        accepted := inc32 port.accepted })

/-- Step 1 of R26: the gap count, and soft event GAP when the gap-reported flag is clear. -/
def sliceGap (p : HeadId) (f : SliceFields) (s : State) : State :=
  let port := s.ports.get p
  if port.expected = some f.start then s
  else
    let s1 := s.withPort p { port with gaps := inc32 port.gaps, gapReported := true }
    if port.gapReported then s1
    else raiseSoft (.port p) (.gap (port.expected.getD 0) f.start (port.revolution.getD 0)) s1

/-- Step 2 of R26: at start index 0, the revolution check. -/
def sliceRevolution (f : SliceFields) (port : Port) : Port :=
  if f.start = 0 then
    { port with
      jumps := if f.revolution = (port.revolution.getD 0 + 1) % 65536 then port.jumps else inc32 port.jumps
      revolution := some f.revolution
      gapReported := false }
  else port

/-- Step 3 of R26, the restart of the silence timer, and the count of slices accepted. -/
def sliceExpect (f : SliceFields) (port : Port) : Port :=
  { port with
    expected := some (expectedAfter (headClass port.classCode).samples f)
    silence := startMs port.silenceTimeout
    accepted := inc32 port.accepted }

/-- A slice accepted in STREAMING (R26). -/
def sequenceSlice (p : HeadId) (f : SliceFields) (s : State) : State :=
  let s1 := sliceGap p f s
  s1.withPort p (sliceExpect f (sliceRevolution f (s1.ports.get p)))

/-- A good slice is taken or discarded by the port state (R25 to R27). -/
def takeSlice (p : HeadId) (f : SliceFields) (payload : List Byte) (s : State) : State :=
  match (s.ports.get p).state with
  | .waiting => if f.start = 0 then passOn p f payload (synchronise p f s) else countUnsynced p s
  | .silent => if f.start = 0 then passOn p f payload (synchronise p f s) else countUnsynced p s
  | .streaming => passOn p f payload (sequenceSlice p f s)
  | .faulted => countUnsynced p s
  | .down => s
  | .disabled => s

/-- A SLICE that R22 discards: MALFORMED, and soft event SLICE_MALFORMED with the fields the frame held (R34, R197). -/
def malformedSlice (p : HeadId) (f : SliceFields) (s : State) : State :=
  raiseSoft (.port p) (.sliceMalformed f.start f.count f.revolution) (countMalformed p s)

/-- A whole SLICE frame arrives (R21, R22). -/
def sliceArrives (p : HeadId) (payload : List Byte) (s : State) : State :=
  let port := s.ports.get p
  if !examinesFrames port.state then s
  else if headPayloadLimit < payload.length then countMalformed p s
  else
    let f := sliceFields payload
    if sliceGood (headClass port.classCode).samples f payload then takeSlice p f payload s
    else malformedSlice p f s

/-- SLICE (R22, R25 to R27, R31). -/
def execSlice (p : HeadId) (payload : List Byte) (s : State) : Host.Outcome State Fault Refusal :=
  .next (endEvent (sliceArrives p payload s))

/-! ### The silence timer -/

/-- A streaming port's silence timer expires (R28): the port enters SILENT, raises HEAD_SILENT, and has left STREAMING. -/
def silenceExpires (p : HeadId) (s : State) : State :=
  let port := s.ports.get p
  if port.state = .streaming && timerExpires port.silence then
    afterLeaving
      (raiseSoft (.port p) (.headSilent (port.revolution.getD 0) (port.expected.getD 0))
        (s.withPort p (idlePort .silent port)))
  else s

/-- SILENCE_TIMER_EXPIRY (R28). -/
def execSilenceTimerExpiry (p : HeadId) (s : State) : Host.Outcome State Fault Refusal :=
  .next (endEvent (silenceExpires p s))

/-! ### HEAD STATUS -/

/-- A good HEAD STATUS with condition FAULT (R29). -/
def statusFault (p : HeadId) (code : Nat) (temperature : Int) (s : State) : State :=
  let port := s.ports.get p
  let port1 := { port with lastStatus := some ⟨.fault, code⟩ }
  if port.state = .faulted then s.withPort p port1
  else
    leftFrom port.state
      (raiseSoft (.port p) (.headFault code temperature) (s.withPort p (idlePort .faulted port1)))

/-- The port state that a WARN or an OK leaves (R30). -/
def clearedFault (port : Port) : Port := if port.state = .faulted then idlePort .waiting port else port

/-- A good HEAD STATUS with condition WARN (R30). -/
def statusWarn (p : HeadId) (code : Nat) (temperature : Int) (s : State) : State :=
  let port := s.ports.get p
  let s1 := s.withPort p { clearedFault port with lastStatus := some ⟨.warn, code⟩, warn := true }
  if port.warn then s1 else raiseSoft (.port p) (.headWarn code temperature) s1

/-- A good HEAD STATUS with condition OK (R30). -/
def statusOk (p : HeadId) (code : Nat) (s : State) : State :=
  s.withPort p { clearedFault (s.ports.get p) with lastStatus := some ⟨.ok, code⟩, warn := false }

/-- A whole HEAD STATUS frame arrives (R22, R29, R30). -/
def headStatusArrives (p : HeadId) (payload : List Byte) (s : State) : State :=
  if !examinesFrames (s.ports.get p).state then s
  else if payload.length ≠ 3 then countMalformed p s
  else
    match conditionOf (fieldU 0 1 payload) with
    | none => countMalformed p s
    | some .fault => statusFault p (fieldU 2 1 payload) (fieldI 1 1 payload) s
    | some .warn => statusWarn p (fieldU 2 1 payload) (fieldI 1 1 payload) s
    | some .ok => statusOk p (fieldU 2 1 payload) s

/-- HEAD_STATUS (R22, R29, R30). -/
def execHeadStatus (p : HeadId) (payload : List Byte) (s : State) : Host.Outcome State Fault Refusal :=
  .next (endEvent (headStatusArrives p payload s))

end Sys2Proof.Machine
end

