-- ==== Sys2Proof/Machine/Power.lean ====
section
/-! DEFINITION. Power-on, the reset input (R2, R37, R151) and the passing of one microsecond (R18). -/

namespace Sys2Proof.Machine

/-- The power-on state as the lines stand: a port whose link has carrier takes a carrier gain (R37), and the trunk link is
reported UP when it has carrier (R151); the encoder lines stand at their levels (log 5, log 6). The model's own two fields, the queue of commands and the count of
free choices, are kept from `old`. -/
def powerOnWith (lines : PowerLines) (old : State) : State :=
  let s := State.reset
  let portFor (carrier : Bool) : Port := if carrier then portCarrierGain {} else {}
  { s with
    ports := ⟨portFor lines.head0, portFor lines.head1, portFor lines.head2⟩
    odo := { s.odo with
      a := { s.odo.a with phase1 := lines.a1, phase2 := lines.a2 }
      b := { s.odo.b with phase1 := lines.b1, phase2 := lines.b2 } }
    queue := { s.queue with linkUp := lines.trunk }
    choices := old.choices
    pending := old.pending }

/-- What the lines show, read from the state: a port is DOWN exactly while its link has no carrier (R23), and the link state
is UP exactly while the trunk link has carrier (R151). -/
def linesOf (s : State) : PowerLines :=
  { head0 := s.ports.h0.state != .down
    head1 := s.ports.h1.state != .down
    head2 := s.ports.h2.state != .down
    trunk := s.queue.linkUp
    a1 := s.odo.a.phase1
    a2 := s.odo.a.phase2
    b1 := s.odo.b.phase1
    b2 := s.odo.b.phase2 }

/-- POWER_ON (R2). -/
def execPowerOn (lines : PowerLines) (s : State) : Host.Outcome State Fault Refusal :=
  .next (powerOnWith lines s)

/-- RESET_INPUT (R2): every block returns to its power-on state; the lines outside the part stay as they are. -/
def execResetInput (s : State) : Host.Outcome State Fault Refusal :=
  .next (powerOnWith (linesOf s) s)

/-- Every running timer has run one more microsecond (R18). -/
def tickTimers (s : State) : State :=
  { s with
    ports := s.ports.map fun p => { p with silence := tickTimer p.silence }
    odo := { s.odo with interval := tickTimer s.odo.interval }
    assembler :=
      { s.assembler with contexts := s.assembler.contexts.map fun c => { c with timer := tickTimer c.timer } }
    comparator := { s.comparator with hold := tickTimer s.comparator.hold }
    faults := { s.faults with headLoss := tickTimer s.faults.headLoss, linkLoss := tickTimer s.faults.linkLoss } }

/-- The timebase one microsecond later (R18). -/
def advanceTime (s : State) : State :=
  let s1 := tickTimers s
  s1.withRun { s1.run with timebase := wrap32 (s1.run.timebase + 1) }

/-- TIMEBASE_ADVANCE (R18). -/
def execTimebaseAdvance (s : State) : Host.Outcome State Fault Refusal :=
  .next (endEvent (advanceTime s))

end Sys2Proof.Machine
end

