-- ==== Sys2Proof/Machine/RouteRequests.lean ====
section
/-! DEFINITION. The requests that write the Route Map: SET ROUTE BASE (R86), WRITE and CLEAR ROUTE ENTRY (R88, R89), ERASE
ENVELOPE (R92), MAP and UNMAP CELLS (R93, R94), ADD and REMOVE MARKER (R98, R99). -/

namespace Sys2Proof.Machine

/-- SET ROUTE BASE (R86). -/
def setRouteBase (payload : List Byte) (s : State) : State × Reply :=
  let base := fieldI 0 4 payload
  if s.run.runState ≠ .unarmed then refuse .state [] s
  else if !inRange (-2000000000) 2000000000 base then badField 1 s
  else accept (encU 2 (mappedCount s.route)) (s.withRoute (rebase base s.route))

/-- SET_ROUTE_BASE (R86). -/
def execSetRouteBase (s : State) : Host.Outcome State Fault Refusal :=
  .next (takeKind 12 (withLength 4 setRouteBase) s)

/-- Whether a curve radius is accepted (R88). -/
def radiusGood (r : Int) : Bool := r == 0 || inRange 20 20000 r.natAbs

/-- The lowest field of a WRITE ROUTE ENTRY outside its accepted values (R88). -/
def badEntryField (payload : List Byte) : Option Nat :=
  firstBad
    [(1, decide (fieldU 0 2 payload ≤ 511)),
     (2, decide (fieldU 2 1 payload ≤ 63)),
     (3, radiusGood (fieldI 3 2 payload)),
     (4, inRange 0 5000 (fieldU 5 2 payload)),
     (5, (zoneOf (fieldU 7 1 payload)).isSome),
     (6, (flagOf (fieldU 8 1 payload)).isSome)]

/-- WRITE ROUTE ENTRY (R88). -/
def writeRouteEntry (payload : List Byte) (s : State) : State × Reply :=
  match badEntryField payload with
  | some n => badField n s
  | none =>
    let e := fieldU 0 2 payload
    let j := fieldU 2 1 payload
    let entry := entryAt s.route e
    if 0 < entry.references then refuse .inUse (encU 2 entry.references) s
    else if !(envelopeAt s.route j).defined then refuse .noEnvelope (encU 1 j) s
    else
      accept []
        (s.withRoute { s.route with
          entries := tableSet {} s.route.entries e
            { defined := true
              envelope := j
              radius := fieldI 3 2 payload
              margin := fieldU 5 2 payload
              zone := (zoneOf (fieldU 7 1 payload)).getD .assess
              alertEnable := fieldU 8 1 payload == 1
              references := entry.references } })

/-- WRITE_ROUTE_ENTRY (R88). -/
def execWriteRouteEntry (s : State) : Host.Outcome State Fault Refusal :=
  .next (takeKind 13 (withLength 9 writeRouteEntry) s)

/-- CLEAR ROUTE ENTRY (R89). -/
def clearRouteEntry (payload : List Byte) (s : State) : State × Reply :=
  let e := fieldU 0 2 payload
  if 511 < e then badField 1 s
  else
    let entry := entryAt s.route e
    if 0 < entry.references then refuse .inUse (encU 2 entry.references) s
    else if !entry.defined then accept [] s
    else accept [] (s.withRoute { s.route with entries := tableSet {} s.route.entries e {} })

/-- CLEAR_ROUTE_ENTRY (R89). -/
def execClearRouteEntry (s : State) : Host.Outcome State Fault Refusal :=
  .next (takeKind 14 (withLength 2 clearRouteEntry) s)

/-- ERASE ENVELOPE (R92). -/
def eraseEnvelope (payload : List Byte) (s : State) : State × Reply :=
  let j := fieldU 0 1 payload
  if frozen s.run.runState then refuse .frozen [] s
  else if 63 < j then badField 1 s
  else
    match namingEntry s.route j with
    | some e => refuse .inUse (encU 2 e) s
    | none =>
      if !(envelopeAt s.route j).defined then accept [] s
      else accept [] (s.withRoute { s.route with envelopes := tableSet {} s.route.envelopes j {} })

/-- ERASE_ENVELOPE (R92). -/
def execEraseEnvelope (s : State) : Host.Outcome State Fault Refusal :=
  .next (takeKind 15 (withLength 1 eraseEnvelope) s)

/-- The entry indices that a MAP CELLS carries (R198). -/
def carriedIndices (payload : List Byte) : List Nat := fieldsU 3 2 (fieldU 2 1 payload) payload

/-- Whether a span of cells lies in the directory (R93, R94). -/
def spanGood (first count : Nat) : Bool := decide (first ≤ 4095) && decide (first + count ≤ cellCount)

/-- The first place of a list that names an undefined entry, with its index (R93). -/
def undefinedEntry (rm : RouteMap) (indices : List Nat) : Option (Nat × Nat) :=
  (indices.findIdx? fun e => !(entryAt rm e).defined).map fun i => (i, indices.getD i 0)

/-- MAP CELLS (R93). -/
def mapCells (payload : List Byte) (s : State) : State × Reply :=
  let first := fieldU 0 2 payload
  let count := fieldU 2 1 payload
  let indices := carriedIndices payload
  if payload.length < 3 ∨ payload.length ≠ 3 + 2 * count then refuse .malformed [] s
  else
    match firstBad
      [(1, spanGood first count), (2, inRange 1 64 count), (3, indices.all fun e => decide (e ≤ 511))] with
    | some n => badField n s
    | none =>
      match lateCell s first count with
      | some (i, g) => refuse .tooLate (encU 2 i ++ encI 4 g) s
      | none =>
        match undefinedEntry s.route indices with
        | some (place, e) => refuse .noEntry (encU 2 place ++ encU 2 e) s
        | none =>
          let rm := mapSpan first indices s.route
          accept (encU 2 (mappedCount rm)) (s.withRoute rm)

/-- MAP_CELLS (R93). -/
def execMapCells (s : State) : Host.Outcome State Fault Refusal :=
  .next (takeKind 16 mapCells s)

/-- UNMAP CELLS (R94). -/
def unmapCells (payload : List Byte) (s : State) : State × Reply :=
  let first := fieldU 0 2 payload
  let count := fieldU 2 1 payload
  match firstBad [(1, spanGood first count), (2, inRange 1 64 count)] with
  | some n => badField n s
  | none =>
    match lateCell s first count with
    | some (i, g) => refuse .tooLate (encU 2 i ++ encI 4 g) s
    | none =>
      let rm := unmapSpan first count s.route
      accept (encU 2 (mappedCount rm)) (s.withRoute rm)

/-- UNMAP_CELLS (R94). -/
def execUnmapCells (s : State) : Host.Outcome State Fault Refusal :=
  .next (takeKind 17 (withLength 3 unmapCells) s)

/-- The place that a position has or would have in the marker list (R97). -/
def markerPlace (position : Int) (markers : List Marker) : Nat := markers.countP fun m => decide (m.position < position)

/-- ADD MARKER (R98). -/
def addMarker (payload : List Byte) (s : State) : State × Reply :=
  let position := fieldI 0 4 payload
  let label := fieldU 4 4 payload
  if 65535 < label then badField 2 s
  else
    match lateMarker s position with
    | some g => refuse .tooLate (encI 4 g) s
    | none =>
      if markerCapacity ≤ s.route.markers.length then refuse .full [] s
      else
        match conflictingMarker position s.route.markers with
        | some m => refuse .conflict (encI 4 m.position ++ encU 2 m.label) s
        | none =>
          let ms := insertMarker ⟨position, label, .unseen⟩ s.route.markers
          accept (encU 2 (markerPlace position s.route.markers) ++ encU 2 ms.length)
            (s.withRoute { s.route with markers := ms })

/-- ADD_MARKER (R98). -/
def execAddMarker (s : State) : Host.Outcome State Fault Refusal :=
  .next (takeKind 18 (withLength 8 addMarker) s)

/-- REMOVE MARKER (R99). -/
def removeMarker (payload : List Byte) (s : State) : State × Reply :=
  let position := fieldI 0 4 payload
  match lateMarker s position with
  | some g => refuse .tooLate (encI 4 g) s
  | none =>
    match s.route.markers.find? fun m => m.position == position with
    | none => accept (encB false ++ encU 2 s.route.markers.length) s
    | some m =>
      let ms := s.route.markers.filter fun n => n.position != position
      accept (encB true ++ encU 2 m.label ++ encU 1 (markerStatusCode m.status) ++ encU 2 ms.length)
        (s.withRoute { s.route with markers := ms })

/-- REMOVE_MARKER (R99). -/
def execRemoveMarker (s : State) : Host.Outcome State Fault Refusal :=
  .next (takeKind 19 (withLength 4 removeMarker) s)

end Sys2Proof.Machine
end

