-- ==== Sys2Proof/Machine/Trunk.lean ====
section
/-! DEFINITION. The trunk link: its carrier (R151, R189), the completion of a transmission (R150, R13), and the inbound frames
and the intake (R165, R166). -/

namespace Sys2Proof.Machine

/-! ### The outbound side -/

/-- What Run Control does with an abandoned record (R13): in DRAINING a copy of the current run's RUN_END is offered again. -/
def reofferRunEnd (r : Option Record) (s : State) : State :=
  match r with
  | some (.runEnd e) =>
    if s.run.runState = .draining ∧ e.runNumber = s.run.runNumber then offerRunEnd e s else s
  | _ => s

/-- The record in transmission, if there is one, is abandoned (R151). -/
def abandon (s : State) : State :=
  let r := sendingRecord s.queue
  let q := dropSent s.queue
  match r with
  | none => s.withQueue q
  | some _ =>
    let s1 := s.withQueue { q with counters := { q.counters with txAbandoned := inc32 q.counters.txAbandoned } }
    let s2 := reofferRunEnd r s1
    s2.withQueue (serveHolder s2.queue)

/-- The link-loss timer starts in a survey, when it does not run (R189). -/
def startLinkLoss (s : State) : State :=
  if inSurvey s.run.runState && s.faults.linkLoss.isNone then
    s.withFaults { s.faults with linkLoss := startMs s.run.params.linkLossLimit }
  else s

/-- The trunk link loses carrier (R151, R189). -/
def linkDown (s : State) : State :=
  startLinkLoss (abandon (s.withQueue { s.queue with linkUp := false }))

/-- TRUNK_LINK_DOWN (R151). -/
def execTrunkLinkDown (s : State) : Host.Outcome State Fault Refusal :=
  .next (endEvent (linkDown s))

/-- The trunk link gains carrier (R151, R189). -/
def linkUp (s : State) : State :=
  (s.withQueue { s.queue with linkUp := true }).withFaults { s.faults with linkLoss := none }

/-- TRUNK_LINK_UP (R151). -/
def execTrunkLinkUp (s : State) : Host.Outcome State Fault Refusal :=
  .next (endEvent (linkUp s))

/-- What Run Control does with a completed record (R13): the current run's RUN_END with reason STOPPED ends a run in DRAINING,
with the hand-over of R14 and the link-loss timer stopped (R189). -/
def completeRunEnd (r : Record) (s : State) : State :=
  match r with
  | .runEnd e =>
    if s.run.runState = .draining ∧ e.runNumber = s.run.runNumber ∧ e.reason = .stopped then
      ((s.withRun { s.run with runState := .ended }).withOdo (handOver s.odo)).withFaults
        { s.faults with linkLoss := none }
    else s
  | _ => s

/-- A transmission completes (R150); with no record in transmission there is nothing to complete (log 3). -/
def completeTransmission (s : State) : State :=
  match sendingRecord s.queue with
  | none => s
  | some r =>
    let q := dropSent s.queue
    let s1 := completeRunEnd r
      (s.withQueue { q with counters := { q.counters with transmitted := inc32 q.counters.transmitted } })
    s1.withQueue (serveHolder s1.queue)

/-- TRANSMISSION_COMPLETE (R150). -/
def execTransmissionComplete (s : State) : Host.Outcome State Fault Refusal :=
  .next (endEvent (completeTransmission s))

/-! ### The inbound side -/

/-- What the inbound side brings reaches the Management Unit while the link is UP; a DOWN link brings nothing (R151, R189), so a
frame named as received on one is no event (log 9). -/
def receiveInbound (f : Management → Management) (s : State) : State :=
  if s.queue.linkUp then s.withMgmt (f s.mgmt) else s

/-- The malformed-frame count rises by 1 (R165). -/
def countBadFrame (m : Management) : Management := { m with malformed := inc32 m.malformed }

/-- A frame has been received whole, good or bad (R167). -/
def countFrame (m : Management) : Management := { m with framesReceived := inc32 m.framesReceived }

/-- TRUNK_FRAME_TOO_LONG (R165): discarded before its payload is gathered, so it is not received whole (log 17). -/
def execTrunkFrameTooLong (s : State) : Host.Outcome State Fault Refusal :=
  .next (endEvent (receiveInbound countBadFrame s))

/-- The rows of R165 that discard a frame received whole: CRC-32, kind, too short. A frame that none of them discards is no
event of this row (log 3). -/
def trunkFrameDiscarded (kind : Byte) (payload : List Byte) (crc : BitVec 32) (m : Management) : Management :=
  if requestPayloadLimit + 2 < payload.length then countBadFrame m
  else if crc ≠ trunkCrc kind payload then { countFrame m with crcBad := inc32 m.crcBad }
  else if kind ≠ 32#8 then countBadFrame (countFrame m)
  else if payload.length < 2 then countBadFrame (countFrame m)
  else m

/-- TRUNK_FRAME_DISCARDED (R165). -/
def execTrunkFrameDiscarded (kind : Byte) (payload : List Byte) (crc : BitVec 32) (s : State) :
    Host.Outcome State Fault Refusal :=
  .next (endEvent (receiveInbound (trunkFrameDiscarded kind payload crc) s))

/-- The capacity of the intake (R166). -/
def intakeCapacity : Nat := 4

/-- A request is offered to the intake (R166). -/
def enterIntake (r : Request) (m : Management) : Management :=
  if m.intake.length < intakeCapacity then { m with intake := m.intake ++ [r] }
  else { m with dropped := inc32 m.dropped }

/-- A good REQUEST frame is received (R165, R166); one whose payload is above the limit is too long (R165). -/
def requestArrives (tag kind : Byte) (payload : List Byte) (m : Management) : Management :=
  if requestPayloadLimit < payload.length then countBadFrame m
  else enterIntake ⟨tag, kind, payload⟩ (countFrame m)

/-- REQUEST (R166). -/
def execRequest (tag kind : Byte) (payload : List Byte) (s : State) : Host.Outcome State Fault Refusal :=
  .next (endEvent (receiveInbound (requestArrives tag kind payload) s))

end Sys2Proof.Machine
end

