-- ==== Sys2Proof/Machine/RunRequests.lean ====
section
/-! DEFINITION. The run requests: ARM (R8, R9, R82), START (R10), STOP (R11, R12) and RESET RUN (R15). -/

namespace Sys2Proof.Machine

/-! ### ARM -/

/-- The lowest enabled port without a defined calibration table (R8, check 2). -/
def uncalibratedPort (s : State) : Option HeadId :=
  [HeadId.h0, HeadId.h1, HeadId.h2].find? fun p =>
    (s.ports.get p).enable && !(s.correctors.get p).calibration.defined

/-- What the first check of R8 that fails answers. -/
def armCheck (s : State) : Option (List Byte) :=
  if !s.ports.toList.any Port.enable then some (encU 1 1)
  else
    match uncalibratedPort s with
    | some p => some (encU 1 2 ++ encU 1 (headNumber p))
    | none =>
      if s.odo.settings.scaleA = 0 ∨ s.odo.settings.scaleB = 0 then some (encU 1 3)
      else if !s.run.paramsSet then some (encU 1 4)
      else if mappedCount s.route = 0 then some (encU 1 5)
      else none

/-- A wheel at ARM (R82): PRESENT, silent travel and remainder 0; the pending and illegal-step counts kept. -/
def armWheel (w : WheelRecord) : WheelRecord := { w with remainder := 0, status := .present, silentTravel := 0 }

/-- The ARM values of the Odometry Unit (R82). -/
def armOdometry (origin : Int) (o : Odometry) : Odometry :=
  { o with
    a := armWheel o.a
    b := armWheel o.b
    agreement := 0
    slipFilter := 0
    filterMode := .normal
    mode := .normal
    c := origin
    h := origin
    r := 0
    u := 0
    reversed := false
    debounce := none
    lastMatched := none
    cameraNext := 1
    cameraFrames := 0 }

/-- The ARM values of the Profile Assembler (R107); the discard counts are kept. -/
def armAssembler (a : Assembler) : Assembler :=
  { a with contexts := [], closedLine := 0, sequence := 0, lastStation := ⟨none, none, none⟩ }

/-- The ARM values of Run Control (R3, R4, R9). -/
def armRun (r : RunControl) : RunControl :=
  { r with runState := .armed, runNumber := wrap32 (r.runNumber + 1), startTime := none, counters := {} }

/-- The run preparation of every block (R9). -/
def prepareRun (s : State) : State :=
  ((((s.withRun (armRun s.run)).withOdo (armOdometry s.run.params.origin s.odo)).withRoute (unseeMarkers s.route)
    ).withAssembler (armAssembler s.assembler)).withFaults (stopLossTimers s.faults)

/-- ARM (R8, R9). -/
def arm (_payload : List Byte) (s : State) : State × Reply :=
  if s.run.runState ≠ .unarmed then refuse .state [] s
  else
    match armCheck s with
    | some answer => refuse .incomplete answer s
    | none => accept [] (prepareRun s)

/-- ARM (R8, R9). -/
def execArm (s : State) : Host.Outcome State Fault Refusal :=
  .next (takeKind 21 (withLength 0 arm) s)

/-! ### START -/

/-- The link-loss timer starts at once when the link is DOWN (R10). -/
def startLinkLossIfDown (s : State) : State := if s.queue.linkUp then s else startLinkLoss s

/-- START (R10). -/
def start (_payload : List Byte) (s : State) : State × Reply :=
  if s.run.runState ≠ .armed then refuse .state [] s
  else
    accept []
      (startLinkLossIfDown
        (startHeadLoss (s.withRun { s.run with runState := .running, startTime := some s.run.timebase })))

/-- START (R10). -/
def execStart (s : State) : Host.Outcome State Fault Refusal :=
  .next (takeKind 22 (withLength 0 start) s)

/-! ### STOP -/

/-- The effect of STOP in RUNNING (R11, R12, R192): DRAINING, the head-loss timer stopped, the drain, the RUN_END record with
reason STOPPED, and the halt decision of an INTRUSION record lost in the drain. -/
def drain (s : State) : State :=
  let s1 := (s.withRun { s.run with runState := .draining }).withFaults { s.faults with headLoss := none }
  let r := closeEvery .drained s1
  decideHalt (offerRunEnd (buildRunEnd .stopped none r.1) r.1, r.2)

/-- STOP (R11). -/
def stop (_payload : List Byte) (s : State) : State × Reply :=
  if s.run.runState ≠ .running then refuse .state [] s else accept [] (drain s)

/-- STOP (R11). -/
def execStop (s : State) : Host.Outcome State Fault Refusal :=
  .next (takeKind 23 (withLength 0 stop) s)

/-! ### RESET RUN -/

/-- The hand-over when leaving ARMED, RUNNING or DRAINING (R14, R15). -/
def resetOdometry (s : State) : Odometry := if frozen s.run.runState then handOver s.odo else s.odo

/-- The Comparator at RESET RUN (R126, R142). -/
def resetComparator (c : Comparator) : Comparator := { releaseAlert c with lastAlert := none }

/-- The effect of RESET RUN outside UNARMED (R15). -/
def resetRunEffect (s : State) : State :=
  (((((s.withAssembler { s.assembler with contexts := [] }).withComparator (resetComparator s.comparator)
    ).withQueue (resetQueue s.queue)).withOdo (resetOdometry s)).withFaults (stopLossTimers s.faults)).withRun
    { s.run with runState := .unarmed }

/-- RESET RUN (R15). -/
def resetRun (_payload : List Byte) (s : State) : State × Reply :=
  if s.run.runState = .unarmed then accept [] s else accept [] (resetRunEffect s)

/-- RESET_RUN (R15). -/
def execResetRun (s : State) : Host.Outcome State Fault Refusal :=
  .next (takeKind 24 (withLength 0 resetRun) s)

end Sys2Proof.Machine
end

