-- ==== Sys2Proof/Machine/Settings.lean ====
section
/-! DEFINITION. The requests that write settings: CONFIGURE HEAD (R35, R36), SET MASK (R59), SET ODOMETRY (R81) and SET RUN
PARAMETERS (R6). -/

namespace Sys2Proof.Machine

/-! ### CONFIGURE HEAD -/

/-- The fields out of range of a CONFIGURE HEAD (R35). -/
def badHeadField (payload : List Byte) : Option Nat :=
  firstBad
    [(1, decide (fieldU 0 1 payload ≤ 2)),
     (2, decide (fieldU 1 1 payload ≤ 6)),
     (3, (flagOf (fieldU 2 1 payload)).isSome),
     (4, inRange (-20000) 20000 (fieldI 3 2 payload)),
     (5, inRange (-20000) 20000 (fieldI 5 2 payload)),
     (6, decide (fieldU 7 2 payload ≤ 65535)),
     (7, inRange 5 500 (fieldU 9 2 payload))]

/-- The port state that a CONFIGURE HEAD leaves (R36), the fields being installed already. -/
def movePort (before : Port) (enable : Bool) (port : Port) : Port :=
  match before.state with
  | .down => port
  | .disabled => if enable then idlePort .waiting port else port
  | .waiting => if enable then port else { idlePort .disabled port with warn := false, lastStatus := none }
  | .silent => if enable then port else { idlePort .disabled port with warn := false, lastStatus := none }
  | .faulted => if enable then port else { idlePort .disabled port with warn := false, lastStatus := none }
  | .streaming =>
    if enable then
      if port.classCode = before.classCode then { port with silence := startMs port.silenceTimeout }
      else idlePort .waiting port
    else { idlePort .disabled port with warn := false, lastStatus := none }

/-- A port after an accepted CONFIGURE HEAD (R36). -/
def configurePort (payload : List Byte) (port : Port) : Port :=
  let enable := fieldU 2 1 payload == 1
  movePort port enable
    { port with
      classCode := fieldU 1 1 payload
      enable := enable
      yh := fieldI 3 2 payload
      zh := fieldI 5 2 payload
      phi := fieldU 7 2 payload
      silenceTimeout := fieldU 9 2 payload }

/-- CONFIGURE HEAD (R35, R36). -/
def configureHead (payload : List Byte) (s : State) : State × Reply :=
  if frozen s.run.runState then refuse .frozen [] s
  else
    match badHeadField payload with
    | some n => badField n s
    | none =>
      if fieldU 1 1 payload = 0 ∧ fieldU 2 1 payload = 1 then badField 2 s
      else
        match headOf (fieldU 0 1 payload) with
        | none => badField 1 s
        | some p =>
          let port := configurePort payload (s.ports.get p)
          accept (encU 1 (portStateCode port.state)) (s.withPort p port)

/-- CONFIGURE_HEAD (R35, R36). -/
def execConfigureHead (s : State) : Host.Outcome State Fault Refusal :=
  .next (takeKind 9 (withLength 11 configureHead) s)

/-! ### SET MASK -/

/-- SET MASK (R59). -/
def setMask (payload : List Byte) (s : State) : State × Reply :=
  if frozen s.run.runState then refuse .frozen [] s
  else
    match headOf (fieldU 0 1 payload) with
    | none => badField 1 s
    | some p =>
      let c := s.correctors.get p
      accept (leBytes 8 c.mask.toNat) (s.withCorrector p { c with mask := BitVec.ofNat 64 (fieldU 1 8 payload) })

/-- SET_MASK (R59). -/
def execSetMask (s : State) : Host.Outcome State Fault Refusal :=
  .next (takeKind 10 (withLength 9 setMask) s)

/-! ### SET ODOMETRY -/

/-- The settings that a SET ODOMETRY carries (R80, R198). -/
def carriedSettings (payload : List Byte) : OdoSettings :=
  { scaleA := fieldU 0 4 payload
    scaleB := fieldU 4 4 payload
    interval := fieldU 8 1 payload
    weight := fieldU 9 1 payload
    slipThreshold := fieldU 10 2 payload
    lossDistance := fieldU 12 4 payload
    slewLimit := fieldU 16 2 payload
    captureWindow := fieldU 18 4 payload
    reversalTolerance := fieldU 22 2 payload
    recalEnable := fieldU 24 1 payload == 1
    recalBaseline := fieldU 25 4 payload
    cameraPitch := fieldU 29 4 payload }

/-- The lowest field of a SET ODOMETRY out of its range (R80, R81). -/
def badOdometryField (payload : List Byte) : Option Nat :=
  let x := carriedSettings payload
  firstBad
    [(1, inRange 32768 1310720 x.scaleA),
     (2, inRange 32768 1310720 x.scaleB),
     (3, inRange 1 20 x.interval),
     (4, inRange 1 7 x.weight),
     (5, inRange 1 1000 x.slipThreshold),
     (6, inRange 1000 100000 x.lossDistance),
     (7, inRange 1 500 x.slewLimit),
     (8, inRange 100 50000 x.captureWindow),
     (9, inRange 0 10000 x.reversalTolerance),
     (10, (flagOf (fieldU 24 1 payload)).isSome),
     (11, inRange 100000 10000000 x.recalBaseline),
     (12, x.cameraPitch == 0 || inRange 100 100000 x.cameraPitch)]

/-- SET ODOMETRY (R81). -/
def setOdometry (payload : List Byte) (s : State) : State × Reply :=
  if frozen s.run.runState then refuse .frozen [] s
  else
    match badOdometryField payload with
    | some n => badField n s
    | none =>
      let x := carriedSettings payload
      accept [] (s.withOdo { s.odo with settings := x, interval := startMs x.interval })

/-- SET_ODOMETRY (R81). -/
def execSetOdometry (s : State) : Host.Outcome State Fault Refusal :=
  .next (takeKind 11 (withLength 33 setOdometry) s)

/-! ### SET RUN PARAMETERS -/

/-- The parameters that a SET RUN PARAMETERS carries (R5, R198). -/
def carriedParams (payload : List Byte) : RunParams :=
  { direction := (directionOf (fieldU 0 1 payload)).getD .up
    origin := fieldI 1 4 payload
    pitch := fieldU 5 2 payload
    closeLag := fieldU 7 1 payload
    closeTimeout := fieldU 8 2 payload
    defaultCentre := fieldU 10 2 payload
    guardDistance := fieldU 12 4 payload
    bogieCentres := fieldU 16 2 payload
    vehicleLength := fieldU 18 2 payload
    alertDepth := fieldU 20 2 payload
    alertHold := fieldU 22 2 payload
    highCode := fieldU 24 1 payload
    panicCode := fieldU 25 1 payload
    hysteresisCode := fieldU 26 1 payload
    headLossLimit := fieldU 27 2 payload
    linkLossLimit := fieldU 29 2 payload }

/-- The lowest field of a SET RUN PARAMETERS outside its own range (R5, R6). -/
def badParamField (payload : List Byte) : Option Nat :=
  let x := carriedParams payload
  firstBad
    [(1, (directionOf (fieldU 0 1 payload)).isSome),
     (2, inRange (-2000000000) 2000000000 x.origin),
     (3, inRange 10 10000 x.pitch),
     (4, inRange 1 4 x.closeLag),
     (5, inRange 10 1000 x.closeTimeout),
     (6, inRange 0 60000 x.defaultCentre),
     (7, inRange 20000 2000000 x.guardDistance),
     (8, inRange 1000 30000 x.bogieCentres),
     (9, inRange 1000 40000 x.vehicleLength),
     (10, inRange 0 5000 x.alertDepth),
     (11, inRange 100 10000 x.alertHold),
     (12, inRange 0 3 x.highCode),
     (13, inRange 0 3 x.panicCode),
     (14, inRange 0 3 x.hysteresisCode),
     (15, inRange 100 10000 x.headLossLimit),
     (16, inRange 100 10000 x.linkLossLimit)]

/-- The order of the three watermarks is met (R7). -/
def watermarksOrdered (x : RunParams) : Bool :=
  decide (hysteresisMark x.hysteresisCode < highMark x.highCode) && decide (highMark x.highCode < panicMark x.panicCode)

/-- SET RUN PARAMETERS (R6). -/
def setRunParameters (payload : List Byte) (s : State) : State × Reply :=
  if s.run.runState ≠ .unarmed then refuse .state [] s
  else
    match badParamField payload with
    | some n => badField n s
    | none =>
      let x := carriedParams payload
      if x.vehicleLength < x.bogieCentres then badField 9 s
      else if !watermarksOrdered x then badField 12 s
      else accept [] (s.withRun { s.run with params := x, paramsSet := true })

/-- SET_RUN_PARAMETERS (R6). -/
def execSetRunParameters (s : State) : Host.Outcome State Fault Refusal :=
  .next (takeKind 20 (withLength 31 setRunParameters) s)

end Sys2Proof.Machine
end

