-- ==== Sys2Proof/Machine/Status.lean ====
section
/-! DEFINITION. The requests that read the part: READ STATUS (R179, R180), whose sections are coded by R196 in the order of
the rules that list their items, and READ TABLE (R181, R104, R57). -/

namespace Sys2Proof.Machine

/-! ### Items -/

/-- The code of the link state and of the alert line (R196). -/
def encUp (b : Bool) : List Byte := encB b

/-- A list of varying length: its count at width 2, then its elements (R196). -/
def encList {α : Type} (f : α → List Byte) (xs : List α) : List Byte := encU 2 xs.length ++ xs.flatMap f

/-- Counts of width 4, one after another. -/
def encCounts (ns : List Nat) : List Byte := ns.flatMap (encU 4)

/-- A chainage that may be absent (R196): its presence byte, then the value, 0 when absent. -/
def encOptChainage : Option Int → List Byte
  | some x => encB true ++ encI 4 x
  | none => encB false ++ encI 4 0

/-- A slot as the SUMMARY section gives it (R180): lock, lost count, kind of its record or absent. -/
def slotSummary (slot : Slot) : List Byte := slotAnswer slot

/-! ### Sections -/

/-- The SUMMARY section (R180). -/
def summarySection (s : State) : List Byte :=
  encU 1 (runStateCode s.run.runState) ++ encU 4 s.run.runNumber ++ encU 4 s.run.timebase
    ++ encI 4 s.odo.c ++ encI 4 s.odo.h ++ encI 4 s.odo.r ++ encB s.odo.reversed ++ encU 1 (odoModeCode s.odo.mode)
    ++ encU 1 s.queue.level ++ encU 1 s.queue.floor ++ encUp s.queue.linkUp ++ encU 4 (occupancy s.queue)
    ++ encU 4 (dataOccupancy s.queue)
    ++ s.ports.toList.flatMap (fun p => encU 1 (portStateCode p.state))
    ++ encUp s.comparator.alertLine ++ slotSummary s.faults.hard ++ slotSummary s.faults.soft
    ++ encU 1 s.mgmt.intake.length ++ encB s.mgmt.staging.isSome

/-- The sixteen run parameters at the widths of their request (R5, R198). -/
def paramBytes (p : RunParams) : List Byte :=
  encU 1 (directionCode p.direction) ++ encI 4 p.origin ++ encU 2 p.pitch ++ encU 1 p.closeLag ++ encU 2 p.closeTimeout
    ++ encU 2 p.defaultCentre ++ encU 4 p.guardDistance ++ encU 2 p.bogieCentres ++ encU 2 p.vehicleLength
    ++ encU 2 p.alertDepth ++ encU 2 p.alertHold ++ encU 1 p.highCode ++ encU 1 p.panicCode ++ encU 1 p.hysteresisCode
    ++ encU 2 p.headLossLimit ++ encU 2 p.linkLossLimit

/-- The run counters in the order of R4. -/
def runCounterList (k : RunCounters) : List Nat :=
  [k.profilesClosed, k.profilesDropped, k.pointsDropped, k.eventsDropped, k.intrusionsDropped, k.markersMatched,
   k.markersMissed, k.markersUnknown]

/-- The RUN section (R179). -/
def runSection (s : State) : List Byte :=
  encU 1 (runStateCode s.run.runState) ++ encU 4 s.run.runNumber ++ encOpt 4 s.run.startTime ++ encB s.run.paramsSet
    ++ paramBytes s.run.params ++ encCounts (runCounterList s.run.counters) ++ encU 4 s.run.timebase

/-- The last status of a port, or absent (R38). -/
def lastStatusBytes : Option LastStatus → List Byte
  | some x => encB true ++ encU 1 (conditionCode x.condition) ++ encU 1 x.code
  | none => encB false ++ encU 1 0 ++ encU 1 0

/-- The items of one port (R38). -/
def portItems (p : Port) : List Byte :=
  encU 1 (portStateCode p.state) ++ encU 1 p.classCode ++ encB p.enable ++ encU 2 p.silenceTimeout ++ encB p.warn
    ++ lastStatusBytes p.lastStatus ++ encOpt 2 p.revolution ++ encOpt 2 p.expected
    ++ encCounts [p.crcBad, p.malformed, p.unsynced, p.gaps, p.jumps, p.accepted, p.passedOn, p.carrierLosses]

/-- The HEADS section (R38). -/
def headsSection (s : State) : List Byte := s.ports.toList.flatMap portItems

/-- The items of one head in the CORRECTOR section (R39, R56, R179). -/
def correctorItems (c : Corrector) : List Byte :=
  encCounts [c.examined, c.accepted, c.noReturn, c.saturated, c.weak, c.occluded, c.invalid, c.centre, c.far]
    ++ encB c.calibration.defined

/-- The CORRECTOR section (R179). -/
def correctorSection (s : State) : List Byte := s.correctors.toList.flatMap correctorItems

/-- The items of one wheel (R83). -/
def wheelItems (w : WheelRecord) (scale : Nat) : List Byte :=
  encU 1 (wheelStatusCode w.status) ++ encU 4 scale ++ encU 4 w.silentTravel ++ encU 4 w.illegal

/-- The last matched marker, or absent (R83). -/
def lastMatchedBytes : Option MarkerRef → List Byte
  | some m => encB true ++ encI 4 m.position ++ encU 2 m.label
  | none => encB false ++ encI 4 0 ++ encU 2 0

/-- The ODOMETRY section (R83); the codes of the filter mode are the model's choice (log 34). -/
def odometrySection (s : State) : List Byte :=
  let o := s.odo
  encI 4 o.c ++ encI 4 o.h ++ encI 4 o.r ++ encI 4 o.u ++ encB o.reversed ++ encU 1 (odoModeCode o.mode)
    ++ encU 1 (filterModeCode o.filterMode) ++ encU 4 o.slipFilter ++ wheelItems o.a o.settings.scaleA
    ++ wheelItems o.b o.settings.scaleB ++ encU 1 o.agreement ++ lastMatchedBytes o.lastMatched
    ++ encU 4 o.cameraNext ++ encU 4 o.cameraFrames ++ encCounts [o.taken, o.debounced, o.ignored]

/-- The number of defined route entries (R105). -/
def definedEntries (rm : RouteMap) : Nat := rm.entries.countP fun e => e.2.defined

/-- The number of defined envelopes (R105). -/
def definedEnvelopes (rm : RouteMap) : Nat := rm.envelopes.countP fun e => e.2.defined

/-- The number of markers of a run status (R105). -/
def markersOf (rm : RouteMap) (status : MarkerStatus) : Nat := rm.markers.countP fun m => m.status == status

/-- The ROUTE section (R105). The order of the three marker counts, UNSEEN, MATCHED, MISSED, is the model's choice (log 35,
DESIGN CHOICE). -/
def routeSection (s : State) : List Byte :=
  let rm := s.route
  encI 4 rm.base ++ encU 2 (mappedCount rm) ++ encU 2 (definedEntries rm) ++ encU 2 (definedEnvelopes rm)
    ++ encU 2 rm.markers.length ++ encU 2 (markersOf rm .unseen) ++ encU 2 (markersOf rm .matched)
    ++ encU 2 (markersOf rm .missed) ++ encOptChainage (guardLine s)

/-- The items of one open context (R125). -/
def contextItems (c : Context) : List Byte :=
  encU 4 c.station ++ encU 4 c.openTime ++ c.tallies.toList.flatMap fun t => encU 2 t.slices

/-- The ASSEMBLY section (R125): the number of open contexts, then the list of them behind its own count (R196, log 14). -/
def assemblySection (s : State) : List Byte :=
  let a := s.assembler
  encU 4 a.closedLine ++ encU 4 a.sequence ++ encU 2 a.contexts.length ++ encList contextItems a.contexts
    ++ a.lastStation.toList.flatMap (encOpt 4)
    ++ a.discards.toList.flatMap fun d => encCounts [d.reversed, d.beforeStart, d.late]

/-- The last alerting closure, or absent (R143). -/
def lastAlertBytes : Option AlertClosure → List Byte
  | some x => encB true ++ encU 4 x.sequence ++ encU 4 x.station
  | none => encB false ++ encU 4 0 ++ encU 4 0

/-- The CLEARANCE section (R143). -/
def clearanceSection (s : State) : List Byte :=
  let c := s.comparator
  encUp c.alertLine ++ encB c.hold.isSome ++ lastAlertBytes c.lastAlert
    ++ encCounts [c.assessed, c.intruding, c.assertions]

/-- The number of RUN_END records in the holder (R164). -/
def heldRunEnds (q : Outbound) : Nat := q.holder.length - heldIntrusions q

/-- The queue's counters in the order of R163. -/
def queueCounterList (k : QueueCounters) : List Nat :=
  [k.transmitted, k.formsFull, k.formsCompact, k.formsSummary, k.profileDropped, k.pointsKept, k.pointsDropped,
   k.eventLost, k.intrusionLost, k.txAbandoned, k.dataDiscarded]

/-- The QUEUE section (R164). That the number of the control list's records stands before that of the data list's is the model's
choice (log 37, DESIGN CHOICE), and so is that the holder's records are reported as two numbers of width 2, INTRUSION and then
RUN_END (log 36, DESIGN CHOICE). -/
def queueSection (s : State) : List Byte :=
  let q := s.queue
  encU 4 (occupancy q) ++ encU 4 (dataOccupancy q) ++ encU 4 (freeSpace q) ++ encU 2 q.control.length
    ++ encU 2 q.data.length ++ encU 1 (((sendingRecord q).map recordKind).getD 0) ++ encUp q.linkUp ++ encU 1 q.level
    ++ encU 1 q.floor ++ encU 2 (heldIntrusions q) ++ encU 2 (heldRunEnds q) ++ encU 4 (holderClaim q)
    ++ encCounts (queueCounterList q.counters)

/-- The record of a slot, or a presence byte 0 and 22 bytes of 0 (R200). -/
def slotRecordBytes : Option FaultRecord → List Byte
  | some r => encB true ++ faultRecordBytes r
  | none => encB false ++ List.replicate 22 0

/-- The items of one slot in the FAULTS section (R195). -/
def slotItems (slot : Slot) : List Byte := slotRecordBytes slot.record ++ encB slot.lock ++ encU 1 slot.lost

/-- The FAULTS section (R195). That the reported count of the hard faults stands before that of the soft ones, both behind the
slots, is read from the order of the slots in R196 (log 38, DEDUCED). -/
def faultsSection (s : State) : List Byte :=
  let f := s.faults
  slotItems f.hard ++ slotItems f.soft ++ encU 4 f.hardReported ++ encU 4 f.softReported ++ encB f.headLoss.isSome
    ++ encB f.linkLoss.isSome

/-- The staging record as reported (R180): open or closed, and when open its target, part count and part-filled set. -/
def stagingBytes : Option Staging → List Byte
  | some st => encB true ++ targetAnswer st.target ++ encU 1 (partCount st.target) ++ encU 1 (filledBits st)
  | none => encB false ++ [0, 0, 0, 0]

/-- The last request taken, or absent (R180). -/
def lastTakenBytes : Option LastTaken → List Byte
  | some x => encB true ++ [x.tag, x.kind] ++ encU 1 (statusCode x.status)
  | none => encB false ++ [0, 0, 0]

/-- The MANAGEMENT section (R180): the number of waiting requests, then the list of them behind its own count (R196, log 14). -/
def managementSection (s : State) : List Byte :=
  let m := s.mgmt
  encU 1 m.intake.length ++ encList (fun r => [r.tag, r.kind]) m.intake ++ stagingBytes m.staging
    ++ lastTakenBytes m.lastTaken
    ++ encCounts [m.framesReceived, m.crcBad, m.malformed, m.dropped, m.taken, m.refused]

/-- The section of a code (R179). -/
def sectionOf (code : Nat) (s : State) : Option (List Byte) :=
  match code with
  | 0 => some (summarySection s)
  | 1 => some (runSection s)
  | 2 => some (headsSection s)
  | 3 => some (correctorSection s)
  | 4 => some (odometrySection s)
  | 5 => some (routeSection s)
  | 6 => some (assemblySection s)
  | 7 => some (clearanceSection s)
  | 8 => some (queueSection s)
  | 9 => some (faultsSection s)
  | 10 => some (managementSection s)
  | _ => none

/-- READ STATUS (R179). -/
def readStatus (payload : List Byte) (s : State) : State × Reply :=
  match sectionOf (fieldU 0 1 payload) s with
  | some items => accept items s
  | none => badField 1 s

/-- READ_STATUS (R179, R180). -/
def execReadStatus (s : State) : Host.Outcome State Fault Refusal :=
  .next (takeKind 3 (withLength 1 readStatus) s)

/-! ### READ TABLE -/

/-- A route entry as returned (R104). -/
def entryBytes (e : RouteEntry) : List Byte :=
  encB e.defined ++ encU 1 e.envelope ++ encI 2 e.radius ++ encU 2 e.margin ++ encU 1 (zoneCode e.zone)
    ++ encB e.alertEnable ++ encU 2 e.references

/-- An envelope as returned (R104). -/
def envelopeBytes (e : Envelope) : List Byte :=
  encB e.defined ++ encU 2 e.centreHeight ++ (List.range sectorCount).flatMap fun s => encU 4 (limitAt e s)

/-- A cell as returned: its entry, or 65,535 when UNMAPPED (R196). -/
def cellBytes (rm : RouteMap) (i : Nat) : List Byte := encU 2 ((cellAt rm i).getD 65535)

/-- A span of cells as returned (R104): the window base, and the cells as a list behind its count (R196). -/
def spanBytes (rm : RouteMap) (first count : Nat) : List Byte :=
  encI 4 rm.base ++ encList (fun k => cellBytes rm (first + k)) (List.range count)

/-- A marker as returned (R104). -/
def markerBytes (m : Marker) : List Byte := encI 4 m.position ++ encU 2 m.label ++ encU 1 (markerStatusCode m.status)

/-- A calibration table as returned (R57). -/
def calibrationBytes (h : HeadId) (c : Calibration) : List Byte :=
  encU 1 (headNumber h) ++ encB c.defined ++ c.knots.flatMap (encI 2) ++ encU 1 c.intensityFloor

/-- READ TABLE, form 1: ROUTE ENTRY. -/
def readEntry (payload : List Byte) (s : State) : State × Reply :=
  let e := fieldU 1 2 payload
  if 511 < e then badField 2 s else accept (entryBytes (entryAt s.route e)) s

/-- READ TABLE, form 2: ENVELOPE. -/
def readEnvelope (payload : List Byte) (s : State) : State × Reply :=
  let j := fieldU 1 1 payload
  if 63 < j then badField 2 s else accept (envelopeBytes (envelopeAt s.route j)) s

/-- READ TABLE, form 3: CELL SPAN. -/
def readSpan (payload : List Byte) (s : State) : State × Reply :=
  let first := fieldU 1 2 payload
  let count := fieldU 3 2 payload
  match firstBad
    [(2, decide (first ≤ 4095) && decide (first + count ≤ cellCount)), (3, inRange 1 256 count)] with
  | some n => badField n s
  | none => accept (spanBytes s.route first count) s

/-- READ TABLE, form 4: MARKER. -/
def readMarker (payload : List Byte) (s : State) : State × Reply :=
  match s.route.markers[fieldU 1 2 payload]? with
  | some m => accept (markerBytes m ++ encU 2 s.route.markers.length) s
  | none => badField 2 s

/-- READ TABLE, form 5: CALIBRATION. -/
def readCalibration (payload : List Byte) (s : State) : State × Reply :=
  match headOf (fieldU 1 1 payload) with
  | some h => accept (calibrationBytes h (s.correctors.get h).calibration) s
  | none => badField 2 s

/-- READ TABLE (R181): the form code, then the length of its address fields (R198). -/
def readTable (payload : List Byte) (s : State) : State × Reply :=
  if payload.isEmpty then refuse .malformed [] s
  else
    match fieldU 0 1 payload with
    | 1 => withLength 3 readEntry payload s
    | 2 => withLength 2 readEnvelope payload s
    | 3 => withLength 5 readSpan payload s
    | 4 => withLength 3 readMarker payload s
    | 5 => withLength 2 readCalibration payload s
    | _ => badField 1 s

/-- READ_TABLE (R181). -/
def execReadTable (s : State) : Host.Outcome State Fault Refusal :=
  .next (takeKind 4 readTable s)

end Sys2Proof.Machine
end

