-- ==== Sys2Proof/Machine/Dispatch.lean ====
section
/-! DEFINITION. The effect of each command, one arm for each row of spec/opcode_table.json. -/

namespace Sys2Proof.Machine

def exec (i : Instr) (s : State) : Host.Outcome State Fault Refusal :=
  match i with
  | .powerOn lines => Sys2Proof.Machine.execPowerOn lines s
  | .resetInput => Sys2Proof.Machine.execResetInput s
  | .headCarrierLoss p => Sys2Proof.Machine.execHeadCarrierLoss p s
  | .headCarrierGain p => Sys2Proof.Machine.execHeadCarrierGain p s
  | .headFrameTooLong p => Sys2Proof.Machine.execHeadFrameTooLong p s
  | .headFrameDiscarded p kind payload crc => Sys2Proof.Machine.execHeadFrameDiscarded p kind payload crc s
  | .slice p payload => Sys2Proof.Machine.execSlice p payload s
  | .headStatus p payload => Sys2Proof.Machine.execHeadStatus p payload s
  | .silenceTimerExpiry p => Sys2Proof.Machine.execSilenceTimerExpiry p s
  | .encoderTransition w phase1 phase2 => Sys2Proof.Machine.execEncoderTransition w phase1 phase2 s
  | .odometryIntervalExpiry => Sys2Proof.Machine.execOdometryIntervalExpiry s
  | .markerDetection => Sys2Proof.Machine.execMarkerDetection s
  | .closeTimerExpiry station => Sys2Proof.Machine.execCloseTimerExpiry station s
  | .alertHoldExpiry => Sys2Proof.Machine.execAlertHoldExpiry s
  | .headLossTimerExpiry => Sys2Proof.Machine.execHeadLossTimerExpiry s
  | .linkLossTimerExpiry => Sys2Proof.Machine.execLinkLossTimerExpiry s
  | .trunkLinkDown => Sys2Proof.Machine.execTrunkLinkDown s
  | .trunkLinkUp => Sys2Proof.Machine.execTrunkLinkUp s
  | .transmissionComplete => Sys2Proof.Machine.execTransmissionComplete s
  | .trunkFrameTooLong => Sys2Proof.Machine.execTrunkFrameTooLong s
  | .trunkFrameDiscarded kind payload crc => Sys2Proof.Machine.execTrunkFrameDiscarded kind payload crc s
  | .request tag kind payload => Sys2Proof.Machine.execRequest tag kind payload s
  | .badKind => Sys2Proof.Machine.execBadKind s
  | .identify => Sys2Proof.Machine.execIdentify s
  | .setTime => Sys2Proof.Machine.execSetTime s
  | .readStatus => Sys2Proof.Machine.execReadStatus s
  | .readTable => Sys2Proof.Machine.execReadTable s
  | .stageOpen => Sys2Proof.Machine.execStageOpen s
  | .stagePart => Sys2Proof.Machine.execStagePart s
  | .stageCommit => Sys2Proof.Machine.execStageCommit s
  | .stageDiscard => Sys2Proof.Machine.execStageDiscard s
  | .configureHead => Sys2Proof.Machine.execConfigureHead s
  | .setMask => Sys2Proof.Machine.execSetMask s
  | .setOdometry => Sys2Proof.Machine.execSetOdometry s
  | .setRouteBase => Sys2Proof.Machine.execSetRouteBase s
  | .writeRouteEntry => Sys2Proof.Machine.execWriteRouteEntry s
  | .clearRouteEntry => Sys2Proof.Machine.execClearRouteEntry s
  | .eraseEnvelope => Sys2Proof.Machine.execEraseEnvelope s
  | .mapCells => Sys2Proof.Machine.execMapCells s
  | .unmapCells => Sys2Proof.Machine.execUnmapCells s
  | .addMarker => Sys2Proof.Machine.execAddMarker s
  | .removeMarker => Sys2Proof.Machine.execRemoveMarker s
  | .setRunParameters => Sys2Proof.Machine.execSetRunParameters s
  | .arm => Sys2Proof.Machine.execArm s
  | .start => Sys2Proof.Machine.execStart s
  | .stop => Sys2Proof.Machine.execStop s
  | .resetRun => Sys2Proof.Machine.execResetRun s
  | .setLevelFloor => Sys2Proof.Machine.execSetLevelFloor s
  | .ackFault => Sys2Proof.Machine.execAckFault s
  | .timebaseAdvance => Sys2Proof.Machine.execTimebaseAdvance s

end Sys2Proof.Machine
end

