-- ==== Sys2Proof/Safety.lean ====
section
/-! DEFINITION. What counts as a lawful state: the laws that the rules state ("the law of ... is this") and the relations
between items that they imply, as predicates; and the words in which a claim says what a command leaves unchanged. -/

namespace Sys2Proof.Machine

/-! ### Frames -/

/-- The blocks of the state (00_scope.md, Block overview), and the model's own count of free choices. -/
inductive Block where
  | run | ports | correctors | odo | route | assembler | comparator | queue | mgmt | faults | choices
  deriving DecidableEq, Repr

/-- A block is the same in two states. -/
def sameBlock (s t : State) : Block → Prop
  | .run => t.run = s.run
  | .ports => t.ports = s.ports
  | .correctors => t.correctors = s.correctors
  | .odo => t.odo = s.odo
  | .route => t.route = s.route
  | .assembler => t.assembler = s.assembler
  | .comparator => t.comparator = s.comparator
  | .queue => t.queue = s.queue
  | .mgmt => t.mgmt = s.mgmt
  | .faults => t.faults = s.faults
  | .choices => t.choices = s.choices

/-- Only the named blocks may differ; the commands still waiting are the same. -/
def Frame (changed : List Block) (s t : State) : Prop :=
  t.pending = s.pending ∧ ∀ b, b ∉ changed → sameBlock s t b

/-- The ports other than `p` are the same. -/
def otherPortsSame (p : HeadId) (s t : State) : Prop := ∀ q, q ≠ p → t.ports.get q = s.ports.get q

/-! ### Slices -/

/-- What a good slice makes of a STREAMING port (R26): gap, revolution, expectation. -/
def streamedPort (port : Port) (expected current revolution start count : Nat) : Port :=
  { port with
    gaps := if start = expected then port.gaps else inc32 port.gaps
    gapReported := if start = 0 then false else (port.gapReported || decide (start ≠ expected))
    jumps := if start = 0 ∧ revolution ≠ (current + 1) % 65536 then inc32 port.jumps else port.jumps
    revolution := some (if start = 0 then revolution else current)
    expected := some (if start + count = (headClass port.classCode).samples then 0 else start + count)
    silence := some (1000 * port.silenceTimeout)
    accepted := inc32 port.accepted }

/-! ### Takings -/

/-- The request `r` is the oldest of the intake, `rest` those behind it, and the queue has room for its answer (R168). -/
structure Ready (s : State) (r : Request) (rest : List Request) : Prop where
  front : s.mgmt.intake = r :: rest
  room : occupancy s.queue + 1040 ≤ 65536

/-- The state after a request is answered (R169, R170), `s` being the state before the taking with the effect of the owning
rule already in it: the RESPONSE joins the control list, the holder is served, the arbiter chooses, and the unit's figures
follow. -/
def answered (s : State) (r : Request) (rest : List Request) (status : Status) (payload : List Byte) (time : Nat) : State :=
  { s with
    queue :=
      arbitrate (serveHolder
        { s.queue with
          control := s.queue.control ++
            [.response ⟨r.tag, r.kind, status, time, inc32 s.mgmt.taken, payload⟩]
          responseClaim := 0 })
    mgmt :=
      { s.mgmt with
        intake := rest
        taken := inc32 s.mgmt.taken
        refused := if status = .ok then s.mgmt.refused else inc32 s.mgmt.refused
        lastTaken := some ⟨r.tag, r.kind, status⟩ } }

/-- The request `r` is the oldest of the intake, of a kind code (R198) and with a payload, and can be taken. -/
structure Takes (s : State) (code : Nat) (payload : List Byte) (r : Request) (rest : List Request) : Prop where
  ready : Ready s r rest
  kind : r.kind = BitVec.ofNat 8 code
  content : r.payload = payload

/-- The kind codes of the requests that a command takes (R198, R169): one code, for BAD_KIND the undefined ones, and
for a command that is no taking none. -/
def takesKind : Instr → Nat → Bool
  | .badKind, k => !definedKind k
  | .identify, k => k == 1
  | .setTime, k => k == 2
  | .readStatus, k => k == 3
  | .readTable, k => k == 4
  | .stageOpen, k => k == 5
  | .stagePart, k => k == 6
  | .stageCommit, k => k == 7
  | .stageDiscard, k => k == 8
  | .configureHead, k => k == 9
  | .setMask, k => k == 10
  | .setOdometry, k => k == 11
  | .setRouteBase, k => k == 12
  | .writeRouteEntry, k => k == 13
  | .clearRouteEntry, k => k == 14
  | .eraseEnvelope, k => k == 15
  | .mapCells, k => k == 16
  | .unmapCells, k => k == 17
  | .addMarker, k => k == 18
  | .removeMarker, k => k == 19
  | .setRunParameters, k => k == 20
  | .arm, k => k == 21
  | .start, k => k == 22
  | .stop, k => k == 23
  | .resetRun, k => k == 24
  | .setLevelFloor, k => k == 25
  | .ackFault, k => k == 26
  | .powerOn _, _ => false
  | .resetInput, _ => false
  | .headCarrierLoss _, _ => false
  | .headCarrierGain _, _ => false
  | .headFrameTooLong _, _ => false
  | .headFrameDiscarded _ _ _ _, _ => false
  | .slice _ _, _ => false
  | .headStatus _ _, _ => false
  | .silenceTimerExpiry _, _ => false
  | .encoderTransition _ _ _, _ => false
  | .odometryIntervalExpiry, _ => false
  | .markerDetection, _ => false
  | .closeTimerExpiry _, _ => false
  | .alertHoldExpiry, _ => false
  | .headLossTimerExpiry, _ => false
  | .linkLossTimerExpiry, _ => false
  | .trunkLinkDown, _ => false
  | .trunkLinkUp, _ => false
  | .transmissionComplete, _ => false
  | .trunkFrameTooLong, _ => false
  | .trunkFrameDiscarded _ _ _, _ => false
  | .request _ _ _, _ => false
  | .timebaseAdvance, _ => false

/-! ### Payloads as they are sent -/

/-- A SLICE payload (R197). -/
def slicePayload (revolution start : Nat) (samples : List Sample) : List Byte :=
  encU 2 revolution ++ encU 2 start ++ encU 2 samples.length
    ++ samples.flatMap fun x => encU 2 x.raw ++ encU 1 x.intensity

/-- A slice that a port of `n` samples per revolution finds good (R22), its fields within their widths. -/
structure SliceIsGood (n revolution start : Nat) (samples : List Sample) : Prop where
  revolutionFits : revolution ≤ 65535
  startFits : start ≤ 65535
  notEmpty : 1 ≤ samples.length
  notTooMany : samples.length ≤ 256
  within : start + samples.length ≤ n
  fields : ∀ x ∈ samples, x.raw ≤ 65535 ∧ x.intensity ≤ 255

/-- A HEAD STATUS payload (R197). -/
def statusPayload (c : Condition) (temperature : Int) (code : Nat) : List Byte :=
  encU 1 (conditionCode c) ++ encI 1 temperature ++ encU 1 code

/-- The payload of a CONFIGURE HEAD (R198). -/
def configurePayload (p : HeadId) (classCode : Nat) (enable : Bool) (yh zh : Int) (phi silenceTimeout : Nat) : List Byte :=
  encU 1 (headNumber p) ++ encU 1 classCode ++ encB enable ++ encI 2 yh ++ encI 2 zh ++ encU 2 phi ++ encU 2 silenceTimeout

/-- The payload of a SET ODOMETRY (R198). -/
def odometryPayload (x : OdoSettings) : List Byte :=
  encU 4 x.scaleA ++ encU 4 x.scaleB ++ encU 1 x.interval ++ encU 1 x.weight ++ encU 2 x.slipThreshold
    ++ encU 4 x.lossDistance ++ encU 2 x.slewLimit ++ encU 4 x.captureWindow ++ encU 2 x.reversalTolerance
    ++ encB x.recalEnable ++ encU 4 x.recalBaseline ++ encU 4 x.cameraPitch

/-- The payload of a WRITE ROUTE ENTRY (R198). -/
def entryPayload (e envelope : Nat) (radius : Int) (margin : Nat) (zone : Zone) (alertEnable : Bool) : List Byte :=
  encU 2 e ++ encU 1 envelope ++ encI 2 radius ++ encU 2 margin ++ encU 1 (zoneCode zone) ++ encB alertEnable

/-- The payload of a MAP CELLS (R198). -/
def mapPayload (first : Nat) (indices : List Nat) : List Byte :=
  encU 2 first ++ encU 1 indices.length ++ indices.flatMap (encU 2)

/-! ### Closures and the end of a run -/

/-- Contexts closed one after another, each with its own reason flag or none (R114). The second component says that an
INTRUSION record was lost within them, which calls for the decision of R192. -/
def closures (reason : Context → Option CloseReason) (cs : List Context) (s : State) : State × Bool :=
  cs.foldl (fun r c => ((closeContext (reason c) c r.1).1, r.2 || (closeContext (reason c) c r.1).2)) (s, false)

/-- The RUN_END record of the current run as it stands (R12). -/
def runEndNow (reason : EndReason) (fault : Option EventKind) (s : State) : RunEndRecord :=
  { runNumber := s.run.runNumber, reason := reason, haltFault := fault, startTime := s.run.startTime
    endTime := s.run.timebase
    lastSequence :=
      if s.assembler.sequence = 0 ∧ s.run.counters.profilesClosed = 0 then none
      else some ((s.assembler.sequence + 4294967295) % 4294967296)
    counters := s.run.counters, finalC := s.odo.c, finalH := s.odo.h }

/-- The state after the run has ended by a fault (R191): every open context closed ABORTED, the RUN_END record with reason
HALTED offered, HALTED, the run end handed over (R14), both loss timers stopped. -/
def haltedBy (fault : EventKind) (s : State) : State :=
  let u := (closures (fun _ => some .aborted) s.assembler.contexts s).1
  let v := offerRunEnd (runEndNow .halted (some fault) u) u
  { v with
    run := { v.run with runState := .halted }
    odo := { v.odo with h := v.odo.c, r := 0, reversed := false }
    faults := { v.faults with headLoss := none, linkLoss := none } }

/-- The decision of R192 after the closures of an event in RUNNING or DRAINING: the run halts when an INTRUSION record was lost. -/
def afterClosures (r : State × Bool) : State := if r.2 then haltedBy .intrusionLost r.1 else r.1

/-! ### Laws of the queue -/

/-- The law of the level (R152). -/
def levelLaw (q : Outbound) : Prop := q.floor ≤ q.level ∧ q.level ≤ 5

/-- The law of capacity (R146), with the response claim 0 outside a taking (R147). -/
def capacityLaw (q : Outbound) : Prop :=
  occupancy q ≤ 65536 ∧ dataOccupancy q ≤ 61440 ∧ q.responseClaim = 0

/-- What bounds the length of every response: at most 8 open contexts (R108), 4 waiting requests (R166), 17 knots (R57). -/
def responseBounds (s : State) : Prop :=
  s.assembler.contexts.length ≤ 8 ∧ s.mgmt.intake.length ≤ 4
    ∧ ∀ h, (s.correctors.get h).calibration.knots.length = 17

/-- The transmitter between events (R149, R151): it never idles on an UP link with a record queued; a record in transmission
is the oldest of its list, and the link is UP. -/
def transmitterLaw (q : Outbound) : Prop :=
  match q.sending with
  | none => q.linkUp = true → q.control = [] ∧ q.data = []
  | some .control => q.linkUp = true ∧ q.control ≠ []
  | some .data => q.linkUp = true ∧ q.data ≠ []

/-- Whether a record is of a kind that waits in the holder (R158). -/
def waitsForSpace : Record → Bool
  | .intrusion _ => true
  | .runEnd _ => true
  | .profile _ _ => false
  | .points _ => false
  | .event _ => false
  | .response _ => false

/-- The pending holder between events (R158, R160): at most two INTRUSION records, none but INTRUSION and RUN_END records,
each of at most 88 bytes (R144), and the oldest waits only because it does not fit. -/
def holderLaw (q : Outbound) : Prop :=
  heldIntrusions q ≤ 2 ∧ (∀ r ∈ q.holder, waitsForSpace r = true ∧ recordSize r ≤ 88)
    ∧ ∀ r, q.holder.head? = some r → 65536 < occupancy q + recordSize r

/-- The intake holds at most 4 requests (R166). -/
def intakeLaw (m : Management) : Prop := m.intake.length ≤ 4

/-! ### Laws of the run -/

/-- The law of the set (R108), and its emptiness outside RUNNING (section 6). -/
def contextLaw (s : State) : Prop :=
  s.assembler.contexts.Pairwise (fun c d => c.station < d.station)
    ∧ s.assembler.contexts.length ≤ 8
    ∧ (∀ c ∈ s.assembler.contexts, s.assembler.closedLine ≤ c.station)
    ∧ (s.run.runState ≠ .running → s.assembler.contexts = [])

/-- The law of the accumulator (R109): count 0 exactly when the minimum radius is absent, and exactly when the head set is
empty. -/
def accumulatorLaw (a : Assembler) : Prop :=
  ∀ c ∈ a.contexts, ∀ s, ((sectorAt c s).count = 0 ↔ (sectorAt c s).minRadius = none)
    ∧ ((sectorAt c s).count = 0 ↔ (sectorAt c s).heads = ⟨false, false, false⟩)

/-- The law of closure (R116): while the count of profiles closed has not saturated, the sequence counter equals it. -/
def closureLaw (s : State) : Prop :=
  s.run.counters.profilesClosed ≤ 4294967295
    ∧ (s.run.counters.profilesClosed < 4294967295 → s.assembler.sequence = s.run.counters.profilesClosed)

/-- The law of chainage (R71): C is never beyond H, and more than the reversal tolerance behind H only while REVERSED is set;
REVERSED is clear when C equals H; outside a run, and in ARMED, C equals H. -/
def chainageLaw (s : State) : Prop :=
  beyond s.run.params.direction s.odo.c s.odo.h = false
    ∧ (s.odo.settings.reversalTolerance < (s.odo.h - s.odo.c).natAbs → s.odo.reversed = true)
    ∧ (s.odo.c = s.odo.h → s.odo.reversed = false)
    ∧ (inSurvey s.run.runState = false → s.odo.c = s.odo.h)

/-- The law of the correction (R69): R never exceeds the capture window in magnitude; outside a survey it is 0. -/
def correctionLaw (s : State) : Prop :=
  s.odo.r.natAbs ≤ s.odo.settings.captureWindow ∧ (inSurvey s.run.runState = false → s.odo.r = 0)

/-- The loss timers run exactly when R188 and R189 let them: the head-loss timer in RUNNING with no port STREAMING, the
link-loss timer in RUNNING and DRAINING with the link DOWN. -/
def lossTimerLaw (s : State) : Prop :=
  (s.faults.headLoss.isSome = (decide (s.run.runState = .running) && !anyStreaming s.ports))
    ∧ (s.faults.linkLoss.isSome = (inSurvey s.run.runState && !s.queue.linkUp))

/-- The alert line is ASSERTED exactly while the hold timer runs (R140, R141). -/
def alertLaw (c : Comparator) : Prop := c.alertLine = c.hold.isSome

/-- The wheels (R64 to R66): never both LOST; the agreement run is below 8 and 0 while both are PRESENT; a remainder is below one
dmm; of the two silent travels one is 0. -/
def wheelLaw (o : Odometry) : Prop :=
  ¬(o.a.status = .lost ∧ o.b.status = .lost) ∧ o.agreement < 8 ∧ (bothPresent o = true → o.agreement = 0)
    ∧ o.a.remainder < 65536 ∧ o.b.remainder < 65536 ∧ (o.a.silentTravel = 0 ∨ o.b.silentTravel = 0)

/-- The camera line is idle between pulses (R77), and no pulse lasts beyond the event that gives it (log 22). -/
def cameraLaw (o : Odometry) : Prop := o.camera.level = .idle

/-! ### Laws of the ports and of the Corrector -/

/-- A port's record (R23, R35, R36): the expected index and the revolution present, and the silence timer running, exactly
while STREAMING; the gap-reported flag set only there; a class without row never enabled; the state as the enable lets it. -/
def portLaw (p : Port) : Prop :=
  (p.expected.isSome = decide (p.state = .streaming))
    ∧ (p.revolution.isSome = decide (p.state = .streaming))
    ∧ (p.silence.isSome = decide (p.state = .streaming))
    ∧ (p.gapReported = true → p.state = .streaming)
    ∧ (∀ e, p.expected = some e → e < (headClass p.classCode).samples)
    ∧ p.classCode ≤ 6
    ∧ (p.enable = true → p.classCode ≠ 0)
    ∧ (p.state = .disabled → p.enable = false)
    ∧ (examinesFrames p.state = true → p.enable = true)

/-- The counts of a head (R41): until the count of samples examined saturates, it is the sum of the other eight. -/
def correctorLaw (c : Corrector) : Prop :=
  c.examined < 4294967295 →
    c.examined = c.accepted + c.noReturn + c.saturated + c.weak + c.occluded + c.invalid + c.centre + c.far

/-! ### Laws of the Route Map -/

/-- The three tables are in their canonical form, and name only cells, entries and envelopes that exist (R84). -/
def tableLaw (rm : RouteMap) : Prop :=
  tableWf none rm.cells ∧ tableWf {} rm.entries ∧ tableWf {} rm.envelopes
    ∧ (∀ e ∈ rm.cells, e.1 < 4096) ∧ (∀ e ∈ rm.entries, e.1 < 512) ∧ (∀ e ∈ rm.envelopes, e.1 < 64)

/-- The number of cells that map to an entry. -/
def cellsNaming (rm : RouteMap) (e : Nat) : Nat := rm.cells.countP fun c => c.2 == some e

/-- The law of reference (R87). -/
def referenceLaw (rm : RouteMap) : Prop := ∀ e, (entryAt rm e).references = cellsNaming rm e

/-- The law of integrity (R87): every mapped cell names a defined entry, every defined entry a defined envelope. -/
def integrityLaw (rm : RouteMap) : Prop :=
  (∀ i e, cellAt rm i = some e → (entryAt rm e).defined = true)
    ∧ ∀ e, (entryAt rm e).defined = true → (envelopeAt rm (entryAt rm e).envelope).defined = true

/-- The law of the marker list (R97). -/
def markerLaw (rm : RouteMap) : Prop :=
  rm.markers.length ≤ 256 ∧ rm.markers.Pairwise fun m n => m.position + 10000 ≤ n.position

/-- What an envelope of the library holds (R90). -/
def envelopeInRange (e : Envelope) : Prop :=
  e.centreHeight ≤ 60000 ∧ e.limits.length = 128 ∧ ∀ l ∈ e.limits, l ≤ 200000

/-- The library is in range (R90). -/
def libraryLaw (rm : RouteMap) : Prop := ∀ j, envelopeInRange (envelopeAt rm j)

/-- The filled parts of a staging record (R172, R173): in index order, below the part count, and each of its target's shape. -/
def stagingLaw (m : Management) : Prop :=
  ∀ st, m.staging = some st →
    st.parts.Pairwise (fun a b => a.1 < b.1)
      ∧ ∀ e ∈ st.parts, e.1 < partCount st.target
        ∧ match st.target, e.2 with
          | .envelope _, .limits centre limits => limits.length = 32 ∧ (centre.isSome = decide (e.1 = 0))
          | .calibration _, .knots knots _ => knots.length = 17
          | .envelope _, .knots _ _ => False
          | .calibration _, .limits _ _ => False

/-- The envelope that an open staging record loads exists (R172). -/
def stagedTargetLaw (m : Management) : Prop :=
  ∀ st j, m.staging = some st → st.target = .envelope j → j ≤ 63

/-! ### Laws of the settings -/

/-- The run parameters are in the ranges of R5, Lo at least Lc, and their watermarks in the order of R7. -/
def paramsInRange (p : RunParams) : Prop :=
  -2000000000 ≤ p.origin ∧ p.origin ≤ 2000000000 ∧ 10 ≤ p.pitch ∧ p.pitch ≤ 10000 ∧ 1 ≤ p.closeLag ∧ p.closeLag ≤ 4
    ∧ 10 ≤ p.closeTimeout ∧ p.closeTimeout ≤ 1000 ∧ p.defaultCentre ≤ 60000 ∧ 20000 ≤ p.guardDistance
    ∧ p.guardDistance ≤ 2000000 ∧ 1000 ≤ p.bogieCentres ∧ p.bogieCentres ≤ 30000 ∧ p.bogieCentres ≤ p.vehicleLength
    ∧ p.vehicleLength ≤ 40000 ∧ p.alertDepth ≤ 5000 ∧ 100 ≤ p.alertHold ∧ p.alertHold ≤ 10000 ∧ p.highCode ≤ 3
    ∧ p.panicCode ≤ 3 ∧ p.hysteresisCode ≤ 3 ∧ 100 ≤ p.headLossLimit ∧ p.headLossLimit ≤ 10000
    ∧ 100 ≤ p.linkLossLimit ∧ p.linkLossLimit ≤ 10000
    ∧ hysteresisMark p.hysteresisCode < highMark p.highCode ∧ highMark p.highCode < panicMark p.panicCode

/-- A wheel scale is in its range or undefined (R80). -/
def scaleInRange (x : Nat) : Prop := x = 0 ∨ (32768 ≤ x ∧ x ≤ 1310720)

/-- The odometry settings are in the ranges of R80. -/
def settingsInRange (x : OdoSettings) : Prop :=
  scaleInRange x.scaleA ∧ scaleInRange x.scaleB ∧ 1 ≤ x.interval ∧ x.interval ≤ 20 ∧ 1 ≤ x.weight ∧ x.weight ≤ 7
    ∧ 1 ≤ x.slipThreshold ∧ x.slipThreshold ≤ 1000 ∧ 1000 ≤ x.lossDistance ∧ x.lossDistance ≤ 100000
    ∧ 1 ≤ x.slewLimit ∧ x.slewLimit ≤ 500 ∧ 100 ≤ x.captureWindow ∧ x.captureWindow ≤ 50000
    ∧ x.reversalTolerance ≤ 10000 ∧ 100000 ≤ x.recalBaseline ∧ x.recalBaseline ≤ 10000000
    ∧ (x.cameraPitch = 0 ∨ (100 ≤ x.cameraPitch ∧ x.cameraPitch ≤ 100000))

/-! ### Laws of two states -/

/-- The law of the slot (R183) over a step: a locked slot keeps its record, and its lost count stays within 255. -/
def slotLaw (x y : Slot) : Prop := (x.lock = true → y.record = x.record) ∧ (x.lost ≤ 255 → y.lost ≤ 255)

/-- What the freeze holds of a port (R16): class, enable, pose and silence timeout. -/
def frozenPort (p q : Port) : Prop :=
  q.classCode = p.classCode ∧ q.enable = p.enable ∧ q.yh = p.yh ∧ q.zh = p.zh ∧ q.phi = p.phi
    ∧ q.silenceTimeout = p.silenceTimeout

/-- The markers at or behind a guard line, by position and label (R95). -/
def guardedMarkers (d : Direction) (g : Int) (markers : List Marker) : List (Int × Nat) :=
  (markers.filter fun m => !markerBeyond d g m.position).map fun m => (m.position, m.label)

/-- The law of the freeze (R16) over a step from `s`, with the guard line as it stands in `s`: the frozen tables and settings
are the same, the wheel scales apart, and so is every cell and marker at or behind the guard line. -/
def freezeLaw (s t : State) : Prop :=
  t.route.envelopes = s.route.envelopes ∧ t.route.base = s.route.base
    ∧ (∀ h, (t.correctors.get h).calibration = (s.correctors.get h).calibration
        ∧ (t.correctors.get h).mask = (s.correctors.get h).mask)
    ∧ (∀ p, frozenPort (s.ports.get p) (t.ports.get p))
    ∧ { t.odo.settings with scaleA := s.odo.settings.scaleA, scaleB := s.odo.settings.scaleB } = s.odo.settings
    ∧ t.run.params = s.run.params
    ∧ ∀ g, guardLine s = some g →
        (∀ i, cellBeyond s.run.params.direction s.route.base g i = false → cellAt t.route i = cellAt s.route i)
          ∧ guardedMarkers s.run.params.direction g t.route.markers
            = guardedMarkers s.run.params.direction g s.route.markers

end Sys2Proof.Machine
end

