-- ==== Sys2Proof/Certificates/Slice0/Obligations.lean ====
section
/-! DEFINITION. The statements for the provers. Each docstring names the rules of spec/ that the statement formalises, and
the log entry where a clause is the model's choice. -/

open Sys2Proof Sys2Proof.Machine

/-! ### Steps, reset and time -/

/-- Commands are taken one at a time from the front of the queue; an empty queue idles. The queue is the model's (log 2). -/
def Obligations.StepTakesFrontCommand : Prop :=
  (∀ (c : Instr) (rest : List Instr) (s : State), s.pending = c :: rest → step s = exec c (s.withPending rest))
    ∧ ∀ s : State, s.pending = [] → step s = .next s

/-- The power-on and reset values (R2 to R5, R18, R37, R39, R60, R77, R80, R84, R107, R126, R145, R167, R173, R182). The levels of
the encoder lines and the model's own counts of camera pulses and of free choices, which the rules do not give, are not
stated. -/
def Obligations.ResetValues : Prop :=
  State.reset.run
      = { runState := .unarmed, runNumber := 0, startTime := none, counters := ⟨0, 0, 0, 0, 0, 0, 0, 0⟩,
          params := ⟨.up, 0, 1000, 1, 100, 0, 100000, 1000, 1000, 0, 1000, 1, 2, 1, 2000, 3000⟩,
          paramsSet := false, timebase := 0 }
    ∧ (∀ p, State.reset.ports.get p
        = { state := .down, classCode := 0, enable := false, yh := 0, zh := 0, phi := 0, silenceTimeout := 50,
            expected := none, revolution := none, gapReported := false, silence := none, warn := false,
            lastStatus := none, crcBad := 0, malformed := 0, unsynced := 0, gaps := 0, jumps := 0, accepted := 0,
            passedOn := 0, carrierLosses := 0 })
    ∧ (∀ p, State.reset.correctors.get p
        = ⟨⟨false, [0, 0, 0, 0, 0, 0, 0, 0, 0, 0, 0, 0, 0, 0, 0, 0, 0], 0⟩, 0, 0, 0, 0, 0, 0, 0, 0, 0, 0⟩)
    ∧ (∀ w ∈ [State.reset.odo.a, State.reset.odo.b],
        w.pending = 0 ∧ w.illegal = 0 ∧ w.remainder = 0 ∧ w.status = .present ∧ w.silentTravel = 0)
    ∧ State.reset.odo.camera.level = .idle
    ∧ { State.reset.odo with a := {}, b := {}, camera := {} }
        = { a := {}, b := {}, camera := {}, agreement := 0, slipFilter := 0, filterMode := .normal, mode := .normal, c := 0, h := 0,
            r := 0, u := 0, reversed := false, debounce := none, lastMatched := none, cameraNext := 1,
            cameraFrames := 0, taken := 0, debounced := 0, ignored := 0, interval := some 2000,
            settings := ⟨0, 0, 2, 3, 20, 20000, 10, 5000, 200, false, 1000000, 0⟩ }
    ∧ State.reset.route.base = 0 ∧ (∀ i, cellAt State.reset.route i = none) ∧ mappedCount State.reset.route = 0
    ∧ (∀ e, entryAt State.reset.route e = ⟨false, 0, 0, 0, .assess, false, 0⟩)
    ∧ (∀ j, envelopeAt State.reset.route j = ⟨false, 0, List.replicate 128 0⟩) ∧ State.reset.route.markers = []
    ∧ State.reset.assembler = ⟨[], 0, 0, ⟨none, none, none⟩, ⟨⟨0, 0, 0⟩, ⟨0, 0, 0⟩, ⟨0, 0, 0⟩⟩⟩
    ∧ State.reset.comparator = ⟨false, none, none, 0, 0, 0⟩
    ∧ State.reset.queue
        = { control := [], data := [], sending := none, linkUp := false, level := 0, floor := 0, keep := ⟨0, 0, 0⟩,
            holder := [], responseClaim := 0, counters := ⟨0, 0, 0, 0, 0, 0, 0, 0, 0, 0, 0⟩ }
    ∧ occupancy State.reset.queue = 0 ∧ dataOccupancy State.reset.queue = 0
    ∧ State.reset.mgmt = ⟨[], none, none, 0, 0, 0, 0, 0, 0⟩
    ∧ State.reset.faults = ⟨⟨none, false, 0⟩, ⟨none, false, 0⟩, 0, 0, none, none⟩
    ∧ State.reset.pending = []

/-- POWER_ON and RESET_INPUT put every block to its power-on value; a link with carrier is then taken as R37 and R151 give.
The lines that stand when power is applied come with the command, and at the reset input they are read from the state: a port
is DOWN and the trunk link DOWN exactly while its link has no carrier (log 5, log 6). The model's own count of choices is kept
(log 7). -/
def Obligations.PowerOnAndResetInput : Prop :=
  (∀ (lines : PowerLines) (s : State),
    exec (.powerOn lines) s
      = .next
        { State.reset with
          ports :=
            ⟨{ state := if lines.head0 then .disabled else .down }, { state := if lines.head1 then .disabled else .down },
              { state := if lines.head2 then .disabled else .down }⟩
          odo :=
            { State.reset.odo with
              a := { State.reset.odo.a with phase1 := lines.a1, phase2 := lines.a2 }
              b := { State.reset.odo.b with phase1 := lines.b1, phase2 := lines.b2 } }
          queue := { State.reset.queue with linkUp := lines.trunk }
          choices := s.choices
          pending := s.pending })
    ∧ ∀ s : State,
      exec .resetInput s
        = exec (.powerOn
            ⟨decide (s.ports.h0.state ≠ .down), decide (s.ports.h1.state ≠ .down), decide (s.ports.h2.state ≠ .down),
              s.queue.linkUp, s.odo.a.phase1, s.odo.a.phase2, s.odo.b.phase1, s.odo.b.phase2⟩) s

/-- TIMEBASE_ADVANCE (R18): the timebase advances by one and wraps, and every running timer has one microsecond less to run.
The count of remaining microseconds is the model's way to hold a timer (log 4). -/
def Obligations.TimebaseAdvances : Prop :=
  ∀ s : State,
    exec .timebaseAdvance s
      = .next (endEvent
        { s with
          run := { s.run with timebase := (s.run.timebase + 1) % 4294967296 }
          ports := s.ports.map fun p => { p with silence := p.silence.map fun n => n - 1 }
          odo := { s.odo with interval := s.odo.interval.map fun n => n - 1 }
          assembler :=
            { s.assembler with
              contexts := s.assembler.contexts.map fun c => { c with timer := c.timer.map fun n => n - 1 } }
          comparator := { s.comparator with hold := s.comparator.hold.map fun n => n - 1 }
          faults :=
            { s.faults with
              headLoss := s.faults.headLoss.map fun n => n - 1
              linkLoss := s.faults.linkLoss.map fun n => n - 1 } })

/-! ### Head ports -/

/-- HEAD_CARRIER_LOSS and HEAD_CARRIER_GAIN (R24), and SILENCE_TIMER_EXPIRY of a STREAMING port (R28), where no port leaves STREAMING
in RUNNING. -/
def Obligations.PortLeavesByCarrierOrSilence : Prop :=
  ((∀ (p : HeadId) (s : State), ¬(s.run.runState = .running ∧ (s.ports.get p).state = .streaming) →
      exec (.headCarrierLoss p) s
        = .next (endEvent
          { s with
            ports := s.ports.set p
              { s.ports.get p with
                state := .down, expected := none, revolution := none, gapReported := false, silence := none
                warn := false, lastStatus := none, carrierLosses := inc32 (s.ports.get p).carrierLosses } }))
      ∧ ∀ (p : HeadId) (s : State), (s.ports.get p).state = .down →
        exec (.headCarrierGain p) s
          = .next (endEvent
            { s with
              ports := s.ports.set p
                { s.ports.get p with
                  state := if (s.ports.get p).enable then .waiting else .disabled
                  expected := none, revolution := none, gapReported := false, silence := none } }))
    ∧ (∀ (p : HeadId) (s : State) (expected current : Nat), (s.ports.get p).state = .streaming →
      (s.ports.get p).silence = some 0 → (s.ports.get p).expected = some expected →
      (s.ports.get p).revolution = some current → s.run.runState ≠ .running →
      exec (.silenceTimerExpiry p) s
        = .next (endEvent (raiseSoft (.port p) (.headSilent current expected)
          { s with
            ports := s.ports.set p
              { s.ports.get p with
                state := .silent, expected := none, revolution := none, gapReported := false, silence := none } })))

/-- A port that leaves STREAMING in RUNNING by carrier loss, by silence or by a HEAD STATUS FAULT (R24, R28, R29): DOWN, SILENT or
FAULTED, with HEAD_SILENT or HEAD_FAULT raised for the last two. Fault Capture starts the head-loss timer when no port is left
STREAMING (R188), and the progress test (R119, R120) closes every context that the port was holding back, with no reason flag;
a run that loses an INTRUSION record in it halts (R192). With no context open the run goes on. The event is offered before the
timer starts and before the test (log 11). -/
def Obligations.LastStreamingPortStartsHeadLoss : Prop :=
  (∀ (p : HeadId) (s : State), s.run.runState = .running → (s.ports.get p).state = .streaming → s.faults.headLoss = none →
      let port := s.ports.get p
      let left (state : PortState) : Port :=
        { port with state := state, expected := none, revolution := none, gapReported := false, silence := none }
      let departed (u : State) (after : Port) : State :=
        let v : State :=
          { u with
            ports := s.ports.set p after
            faults :=
              { u.faults with
                headLoss :=
                  if ∃ q ∈ [HeadId.h0, HeadId.h1, HeadId.h2], q ≠ p ∧ (s.ports.get q).state = .streaming then none
                  else some (1000 * s.run.params.headLossLimit) } }
        endEvent (afterClosures
          (closures (fun _ => none) (s.assembler.contexts.filter fun c => progressHolds v c.station) v))
      exec (.headCarrierLoss p) s
          = .next (departed s
            { left .down with warn := false, lastStatus := none, carrierLosses := inc32 port.carrierLosses })
        ∧ (∀ expected current, port.silence = some 0 → port.expected = some expected → port.revolution = some current →
          exec (.silenceTimerExpiry p) s
            = .next (departed (raiseSoft (.port p) (.headSilent current expected) s) (left .silent)))
        ∧ (∀ (temperature : Int) (code : Nat), -128 ≤ temperature → temperature ≤ 127 → code ≤ 255 →
          exec (.headStatus p (statusPayload .fault temperature code)) s
            = .next (departed (raiseSoft (.port p) (.headFault code temperature) s)
              { left .faulted with lastStatus := some ⟨.fault, code⟩ })))
    ∧ (∀ (s : State) (j : Nat),
      progressHolds s j = true
        ↔ (∃ q, (s.ports.get q).state = .streaming)
          ∧ ∀ q, (s.ports.get q).state = .streaming →
            ∃ k, s.assembler.lastStation.get q = some k ∧ j + s.run.params.closeLag ≤ k)
    ∧ ∀ (p : HeadId) (s : State) (c : Instr), s.run.runState = .running → (s.ports.get p).state = .streaming →
      s.faults.headLoss = none → s.assembler.contexts = [] →
      (c = .headCarrierLoss p ∨ (c = .silenceTimerExpiry p ∧ (s.ports.get p).silence = some 0)
        ∨ ∃ temperature code, -128 ≤ temperature ∧ temperature ≤ 127 ∧ code ≤ 255
          ∧ c = .headStatus p (statusPayload .fault temperature code)) →
      ∃ t, exec c s = .next t
        ∧ Frame [.ports, .run, .queue, .faults] s t ∧ otherPortsSame p s t
        ∧ t.run.runState = .running ∧ (t.ports.get p).state ≠ .streaming ∧ (t.ports.get p).expected = none
        ∧ (t.ports.get p).revolution = none ∧ (t.ports.get p).silence = none
        ∧ ((∃ q, q ≠ p ∧ (s.ports.get q).state = .streaming) → t.faults.headLoss = none)
        ∧ ((∀ q, q ≠ p → (s.ports.get q).state ≠ .streaming) →
          t.faults.headLoss = some (1000 * s.run.params.headLossLimit))
        ∧ t.faults.linkLoss = s.faults.linkLoss ∧ t.faults.hard = s.faults.hard

/-- HEAD_FRAME_TOO_LONG and HEAD_FRAME_DISCARDED (R21, and the first two rows of R22): the frame is counted where the port
examines frames, and is without effect in DOWN and DISABLED. A SLICE that one of the last rows of R22 discards is counted
MALFORMED, with soft event SLICE_MALFORMED carrying the fields that the frame held (R34), and nothing else of the port changes.
A frame named as discarded that is not one to discard has no effect (log 3). -/
def Obligations.BadHeadFrames : Prop :=
  ((∀ (p : HeadId) (s : State),
      exec (.headFrameTooLong p) s
        = .next (endEvent
          (if (s.ports.get p).state = .down ∨ (s.ports.get p).state = .disabled then s
            else { s with ports := s.ports.set p { s.ports.get p with malformed := inc32 (s.ports.get p).malformed } })))
      ∧ ∀ (p : HeadId) (kind : Byte) (payload : List Byte) (crc : BitVec 16) (s : State), payload.length ≤ 774 →
        exec (.headFrameDiscarded p kind payload crc) s
          = .next (endEvent
            (if (s.ports.get p).state = .down ∨ (s.ports.get p).state = .disabled then s
              else if crc ≠ headCrc kind payload then
                { s with ports := s.ports.set p { s.ports.get p with crcBad := inc32 (s.ports.get p).crcBad } }
              else if kind ≠ 1 ∧ kind ≠ 2 then
                { s with ports := s.ports.set p { s.ports.get p with malformed := inc32 (s.ports.get p).malformed } }
              else s)))
    ∧ (∀ (p : HeadId) (s : State) (payload : List Byte), (s.ports.get p).state ≠ .down → (s.ports.get p).state ≠ .disabled →
      payload.length ≤ 774 →
      ¬(6 ≤ payload.length ∧ 1 ≤ fieldU 4 2 payload ∧ fieldU 4 2 payload ≤ 256
        ∧ payload.length = 6 + 3 * fieldU 4 2 payload
        ∧ fieldU 2 2 payload + fieldU 4 2 payload ≤ (headClass (s.ports.get p).classCode).samples) →
      exec (.slice p payload) s
        = .next (endEvent (raiseSoft (.port p)
          (.sliceMalformed (if 4 ≤ payload.length then fieldU 2 2 payload else 0)
            (if 6 ≤ payload.length then fieldU 4 2 payload else 0)
            (if 2 ≤ payload.length then fieldU 0 2 payload else 0))
          { s with ports := s.ports.set p { s.ports.get p with malformed := inc32 (s.ports.get p).malformed } })))

/-- A good SLICE outside STREAMING (R25, R27): start index 0 takes a WAITING or SILENT port to STREAMING, and in RUNNING stops the
head-loss timer (R188) and is passed on, stamped as R31 and R32 give, with the gap mark clear; any other slice there, and every
slice in FAULTED, is counted UNSYNCED, in every run state. What becomes of a slice passed on is said of `deliverSlice` by
PassedSliceDiscarded and SlicePlaced. -/
def Obligations.SliceSynchronises : Prop :=
  ∀ (p : HeadId) (s : State) (revolution start : Nat) (samples : List Sample),
    SliceIsGood (headClass (s.ports.get p).classCode).samples revolution start samples →
    let entered : Port :=
      { s.ports.get p with
        state := .streaming
        revolution := some revolution
        gapReported := false
        expected := some (if samples.length = (headClass (s.ports.get p).classCode).samples then 0 else samples.length)
        silence := some (1000 * (s.ports.get p).silenceTimeout)
        accepted := inc32 (s.ports.get p).accepted }
    ((s.ports.get p).state = .waiting ∨ (s.ports.get p).state = .silent → start = 0 → s.run.runState ≠ .running →
      exec (.slice p (slicePayload revolution start samples)) s
        = .next (endEvent { s with ports := s.ports.set p entered }))
      ∧ ((s.ports.get p).state = .waiting ∨ (s.ports.get p).state = .silent → start = 0 → s.run.runState = .running →
        exec (.slice p (slicePayload revolution start samples)) s
          = .next (endEvent (deliverSlice
            { head := p, revolution := revolution, start := 0, samples := samples, arrival := s.run.timebase,
              chainage := s.odo.c, warn := (s.ports.get p).warn, gap := false }
            { s with
              ports := s.ports.set p { entered with passedOn := inc32 (s.ports.get p).passedOn }
              faults := { s.faults with headLoss := none } })))
      ∧ (((s.ports.get p).state = .waiting ∨ (s.ports.get p).state = .silent) ∧ start ≠ 0
          ∨ (s.ports.get p).state = .faulted →
        exec (.slice p (slicePayload revolution start samples)) s
          = .next (endEvent
            { s with ports := s.ports.set p { s.ports.get p with unsynced := inc32 (s.ports.get p).unsynced } }))

/-- A good SLICE in STREAMING (R26): gap, revolution and expectation in this order, and soft event GAP for the first gap of a
revolution, whatever its start index. In RUNNING it is passed on besides (R31), with the revolution and the gap mark that it
leaves at the port and stamped with the timebase value and C (R32); what becomes of it is said of `deliverSlice` by
PassedSliceDiscarded and SlicePlaced. -/
def Obligations.SliceSequenced : Prop :=
  ∀ (p : HeadId) (s : State) (expected current revolution start : Nat) (samples : List Sample),
    SliceIsGood (headClass (s.ports.get p).classCode).samples revolution start samples →
    (s.ports.get p).state = .streaming → (s.ports.get p).expected = some expected →
    (s.ports.get p).revolution = some current →
    let told :=
      if start = expected ∨ (s.ports.get p).gapReported = true then s
      else raiseSoft (.port p) (.gap expected start current) s
    let sequenced := streamedPort (s.ports.get p) expected current revolution start samples.length
    (s.run.runState ≠ .running →
      exec (.slice p (slicePayload revolution start samples)) s
        = .next (endEvent { told with ports := s.ports.set p sequenced }))
      ∧ (s.run.runState = .running →
        exec (.slice p (slicePayload revolution start samples)) s
          = .next (endEvent (deliverSlice
            { head := p, revolution := if start = 0 then revolution else current, start := start, samples := samples
              arrival := s.run.timebase, chainage := s.odo.c, warn := (s.ports.get p).warn
              gap := if start = 0 then false else ((s.ports.get p).gapReported || decide (start ≠ expected)) }
            { told with
              ports := s.ports.set p { sequenced with passedOn := inc32 (s.ports.get p).passedOn } })))

/-- A slice that is passed on and that the Assembler discards, by the rows of R110 or, with eight contexts open and its station
below every one of them, as LATE (R111): only the head's count for the reason and the model's own count of choices (log 7)
change. The second clause says the same of the whole SLICE, where it follows the expected index of its STREAMING port (R31). -/
def Obligations.PassedSliceDiscarded : Prop :=
  let refused (s : State) (x : Int) : Prop :=
    s.odo.reversed = true ∨ stationOf s.run.params x < s.assembler.closedLine
      ∨ (8 ≤ s.assembler.contexts.length ∧ ∀ c ∈ s.assembler.contexts, stationOf s.run.params x < c.station)
  let counted (s : State) (x : Int) (d : SliceDiscards) : SliceDiscards :=
    if s.odo.reversed then { d with reversed := inc32 d.reversed }
    else if stationOf s.run.params x < 0 then { d with beforeStart := inc32 d.beforeStart }
    else { d with late := inc32 d.late }
  (∀ (sl : PassedSlice) (s : State), refused s sl.chainage →
      deliverSlice sl s
        = { s with
          choices := s.choices + 1
          assembler :=
            { s.assembler with
              discards :=
                s.assembler.discards.set sl.head (counted s sl.chainage (s.assembler.discards.get sl.head)) } })
    ∧ ∀ (p : HeadId) (s : State) (current revolution start : Nat) (samples : List Sample),
      SliceIsGood (headClass (s.ports.get p).classCode).samples revolution start samples → start ≠ 0 →
      (s.ports.get p).state = .streaming → (s.ports.get p).expected = some start →
      (s.ports.get p).revolution = some current → s.run.runState = .running → refused s s.odo.c →
      exec (.slice p (slicePayload revolution start samples)) s
        = .next (endEvent
          { s with
            ports := s.ports.set p
              { streamedPort (s.ports.get p) start current revolution start samples.length with
                passedOn := inc32 (s.ports.get p).passedOn }
            choices := s.choices + 1
            assembler :=
              { s.assembler with
                discards := s.assembler.discards.set p (counted s s.odo.c (s.assembler.discards.get p)) } })

/-- A slice that is passed on and placed (R111 to R113, R40, R41, R54, R55): the context of the station takes it, open already,
opened now, or opened after the oldest of eight is closed FORCED; every sample runs its course from the start index; the accepted
ones go to their sectors and are offered as the slice's point list. The progress test at its end closes every context that meets
the condition (R119, R120), with no reason flag, and an INTRUSION record lost in the event halts the run (R192). The point list
is offered before the closures, between them and the halt, or after it: R156 leaves the order open and it is a free value (log 7).
That the forced closure and the test make one decision is log 31. The second clause is what opening a context puts in the set
(R112). The third says the whole SLICE, where no context meets the condition after it, so that the order does not show. -/
def Obligations.SlicePlaced : Prop :=
  (∀ (sl : PassedSlice) (s s0 : State) (lost : Bool) (j : Nat) (c : Context),
      s.run.runState = .running → s.odo.reversed = false → stationOf s.run.params sl.chainage = j →
      s.assembler.closedLine ≤ j →
      let drawn : State := { s with choices := s.choices + 1 }
      (contextFor j s ≠ none ∧ s0 = drawn ∧ lost = false
        ∨ contextFor j s = none ∧ s.assembler.contexts.length < 8 ∧ s0 = openContext j drawn ∧ lost = false
        ∨ contextFor j s = none ∧ 8 ≤ s.assembler.contexts.length
          ∧ ∃ oldest, s.assembler.contexts.head? = some oldest ∧ oldest.station < j
            ∧ s0 = openContext j (closures (fun _ => some .forced) [oldest] drawn).1
            ∧ lost = (closures (fun _ => some .forced) [oldest] drawn).2) →
      contextFor j s0 = some c →
      let results := correctFrom (correctionSetup s0 sl.head c.copy) sl.start sl.samples
      let points := acceptedPoints results
      let u : State :=
        { s0 with
          correctors := s0.correctors.set sl.head (results.foldl countSample (s0.correctors.get sl.head))
          assembler :=
            { s0.assembler with
              contexts := s0.assembler.contexts.map fun d =>
                if d.station = j then
                  accumulate sl.head points
                    { d with
                      tallies := d.tallies.set sl.head
                        { slices := min 65535 ((d.tallies.get sl.head).slices + 1)
                          first :=
                            if (d.tallies.get sl.head).slices = 0 then some sl.revolution
                            else (d.tallies.get sl.head).first
                          last := some sl.revolution }
                      worst := worseMode d.worst s0.odo.mode
                      warnSeen := d.warnSeen || sl.warn
                      gapSeen := d.gapSeen || sl.gap
                      timer := some (1000 * s0.run.params.closeTimeout) }
                else d
              lastStation := s0.assembler.lastStation.set sl.head
                (some (match s0.assembler.lastStation.get sl.head with | none => j | some k => max k j)) } }
      let passed (v : State) : State × Bool :=
        let d := closures (fun _ => none) (u.assembler.contexts.filter fun d => progressHolds u d.station) v
        (d.1, lost || d.2)
      deliverSlice sl s
        = match Config.pointsTurn s.choices with
          | .beforeClosures => afterClosures (passed (offerPoints sl points u))
          | .beforeHaltDecision => afterClosures (offerPoints sl points (passed u).1, (passed u).2)
          | .afterHaltDecision => offerPoints sl points (afterClosures (passed u)))
    ∧ (∀ (s : State) (j : Nat), s.assembler.contexts.Pairwise (fun c d => c.station < d.station) →
      contextFor j s = none →
      let up := s.run.params.direction = .up
      let offset : Int := j * s.run.params.pitch + s.run.params.pitch / 2
      let centre := if up then s.run.params.origin + offset else s.run.params.origin - offset
      openContext j s
        = { s with
          assembler :=
            { s.assembler with
              contexts :=
                (s.assembler.contexts.filter fun c => decide (c.station < j))
                  ++ { station := j, centre := centre, openTime := s.run.timebase
                       timer := some (1000 * s.run.params.closeTimeout), copy := lookup s.route centre, worst := .normal
                       warnSeen := false, gapSeen := false
                       tallies := ⟨⟨0, none, none⟩, ⟨0, none, none⟩, ⟨0, none, none⟩⟩, sectors := [] }
                  :: (s.assembler.contexts.filter fun c => decide (j < c.station)) } })
    ∧ ∀ (p : HeadId) (s s0 : State) (j current revolution start : Nat) (samples : List Sample) (c : Context),
      SliceIsGood (headClass (s.ports.get p).classCode).samples revolution start samples → start ≠ 0 →
      (s.ports.get p).state = .streaming → (s.ports.get p).expected = some start →
      (s.ports.get p).revolution = some current → s.run.runState = .running → s.odo.reversed = false →
      stationOf s.run.params s.odo.c = j → s.assembler.closedLine ≤ j →
      (contextFor j s ≠ none ∧ s0 = s
        ∨ contextFor j s = none ∧ s.assembler.contexts.length < 8 ∧ s0 = openContext j s) →
      contextFor j s0 = some c →
      let results := correctFrom (correctionSetup s p c.copy) start samples
      let sl : PassedSlice :=
        { head := p, revolution := current, start := start, samples := samples, arrival := s.run.timebase,
          chainage := s.odo.c, warn := (s.ports.get p).warn, gap := (s.ports.get p).gapReported }
      let u : State :=
        { s0 with
          ports := s.ports.set p
            { streamedPort (s.ports.get p) start current revolution start samples.length with
              passedOn := inc32 (s.ports.get p).passedOn }
          choices := s.choices + 1
          correctors := s.correctors.set p (results.foldl countSample (s.correctors.get p))
          assembler :=
            { s0.assembler with
              contexts := s0.assembler.contexts.map fun d =>
                if d.station = j then
                  accumulate p (acceptedPoints results)
                    { d with
                      tallies := d.tallies.set p
                        { slices := min 65535 ((d.tallies.get p).slices + 1)
                          first := if (d.tallies.get p).slices = 0 then some current else (d.tallies.get p).first
                          last := some current }
                      worst := worseMode d.worst s.odo.mode
                      warnSeen := d.warnSeen || (s.ports.get p).warn
                      gapSeen := d.gapSeen || (s.ports.get p).gapReported
                      timer := some (1000 * s.run.params.closeTimeout) }
                else d
              lastStation := s.assembler.lastStation.set p
                (some (match s.assembler.lastStation.get p with | none => j | some k => max k j)) } }
      (∀ d ∈ u.assembler.contexts, progressHolds u d.station = false) →
      exec (.slice p (slicePayload revolution start samples)) s
        = .next (endEvent (offerPoints sl (acceptedPoints results) u))

/-- A good HEAD STATUS (R29, R30): the rows by condition, port state and warn flag, where a FAULT does not take a port out of
STREAMING in RUNNING. -/
def Obligations.HeadStatusActs : Prop :=
  ∀ (p : HeadId) (s : State) (temperature : Int) (code : Nat), -128 ≤ temperature → temperature ≤ 127 → code ≤ 255 →
    (s.ports.get p).state ≠ .down → (s.ports.get p).state ≠ .disabled →
    let port := s.ports.get p
    let cleared : Port :=
      if port.state = .faulted then
        { port with state := .waiting, expected := none, revolution := none, gapReported := false, silence := none }
      else port
    (port.state = .faulted →
      exec (.headStatus p (statusPayload .fault temperature code)) s
        = .next (endEvent { s with ports := s.ports.set p { port with lastStatus := some ⟨.fault, code⟩ } }))
    ∧ (port.state ≠ .faulted → ¬(s.run.runState = .running ∧ port.state = .streaming) →
      exec (.headStatus p (statusPayload .fault temperature code)) s
        = .next (endEvent (raiseSoft (.port p) (.headFault code temperature)
          { s with
            ports := s.ports.set p
              { port with
                state := .faulted, expected := none, revolution := none, gapReported := false, silence := none
                lastStatus := some ⟨.fault, code⟩ } })))
    ∧ (port.warn = false →
      exec (.headStatus p (statusPayload .warn temperature code)) s
        = .next (endEvent (raiseSoft (.port p) (.headWarn code temperature)
          { s with ports := s.ports.set p { cleared with lastStatus := some ⟨.warn, code⟩, warn := true } })))
    ∧ (port.warn = true →
      exec (.headStatus p (statusPayload .warn temperature code)) s
        = .next (endEvent
          { s with ports := s.ports.set p { cleared with lastStatus := some ⟨.warn, code⟩, warn := true } }))
    ∧ exec (.headStatus p (statusPayload .ok temperature code)) s
        = .next (endEvent
          { s with ports := s.ports.set p { cleared with lastStatus := some ⟨.ok, code⟩, warn := false } })

/-- The bytes of a link read back as the frames that were sent (R21, R165, R197, R198): whatever bytes without a sync stand between
them, each whole head frame of at most 774 payload bytes is one command, a SLICE, a HEAD STATUS or a frame of an unknown kind,
and each REQUEST frame is one request. Which command a frame becomes is the model's division of them (log 29), and that no byte
of a whole frame is searched again for a sync is its reading (log 33). -/
def Obligations.FramesReadBack : Prop :=
  (∀ (p : HeadId) (frames : List (List Byte × Byte × List Byte)),
      (∀ f ∈ frames, (∀ i, ¬(f.1[i]? = some 171#8 ∧ f.1[i + 1]? = some 205#8)) ∧ f.2.2.length ≤ 774) →
      receiveHead p (frames.flatMap fun f => f.1 ++ headFrame f.2.1 f.2.2)
        = frames.map fun f =>
          if f.2.1 = 1 then Instr.slice p f.2.2
          else if f.2.1 = 2 then Instr.headStatus p f.2.2
          else Instr.headFrameDiscarded p f.2.1 f.2.2 (headCrc f.2.1 f.2.2))
    ∧ (∀ frames : List (List Byte × Byte × Byte × List Byte),
      (∀ f ∈ frames, (∀ i, ¬(f.1[i]? = some 90#8 ∧ f.1[i + 1]? = some 195#8)) ∧ f.2.2.2.length ≤ 1024) →
      receiveTrunk (frames.flatMap fun f => f.1 ++ trunkFrame 32 (f.2.1 :: f.2.2.1 :: f.2.2.2))
        = frames.map fun f => Instr.request f.2.1 f.2.2.1 f.2.2.2)

/-! ### Sample correction -/

/-- The sector of a point is the whole part of its exact direction over 512 (R52), and an accepted sample has the sector of its
point about the centre. -/
def Obligations.SectorOfExactDirection : Prop :=
  (∀ (α ρ : ℝ) (dy dz : ℤ), 0 ≤ α → α < 65536 → 0 < ρ →
    (dy : ℝ) = ρ * Real.cos (2 * Real.pi * α / 65536) → (dz : ℝ) = ρ * Real.sin (2 * Real.pi * α / 65536) →
    (sectorOf dy dz : ℤ) = ⌊α / 512⌋)
    ∧ ∀ (k : CorrectionSetup) (a : Nat) (x : Sample) (pt : CorrectedPoint),
      correctSample k a x = .accepted pt → pt.sector = sectorOf pt.y (pt.z - k.centreHeight) ∧ pt.sector ≤ 127

/-- The radius of an accepted sample is the whole part of its exact distance from the centre (R53), in 1..205,000; a sample
beyond that is discarded as FAR, one at the centre as CENTRE (R51). -/
def Obligations.RadiusIsWholeDistance : Prop :=
  (∀ n : Nat, isqrt n * isqrt n ≤ n ∧ n < (isqrt n + 1) * (isqrt n + 1))
    ∧ ∀ (k : CorrectionSetup) (rc : Int) (q intensity : Nat),
      let y := k.yh + rnd (rc * cosine q) 32768
      let dz := k.zh + rnd (rc * sine q) 32768 - k.centreHeight
      let d := (y * y + dz * dz).toNat
      placePoint k rc q intensity
          = (if d = 0 then .discarded .centre
              else if 205001 * 205001 ≤ d then .discarded .far
              else .accepted ⟨sectorOf y dz, isqrt d, y, dz + k.centreHeight, intensity⟩)
        ∧ (d ≠ 0 → 1 ≤ isqrt d)

/-- Each entry of the sine table is the integer nearest to 32,767 times the sine (R47), and the cosine is read from it a
quarter turn on. -/
def Obligations.SineTableIsNearest : Prop :=
  ∀ q : Nat, q < 4096 →
    |(sine q : ℝ) - 32767 * Real.sin (2 * Real.pi * q / 4096)| < 1 / 2 ∧ cosine q = sine ((q + 1024) % 4096)

/-- Stage 1 and stage 3 of a sample (R42 to R46): the first of the four conditions discards it; else a corrected range of 0 or
less discards it as INVALID, and a positive one goes on to stages 4 to 6. The correction lies between the knots of its band. -/
def Obligations.SampleCourse : Prop :=
  (∀ (k : CorrectionSetup) (a : Nat) (x : Sample),
    correctSample k a x
      = (if x.raw = 0 then .discarded .noReturn
          else if k.cls.maxRaw < x.raw then .discarded .saturated
          else if x.intensity < k.calibration.intensityFloor then .discarded .weak
          else if k.mask.getLsbD (a * 64 / k.cls.samples) = true then .discarded .occluded
          else if correctedRange k.calibration.knots (x.raw * k.cls.unit) ≤ 0 then .discarded .invalid
          else
            placePoint k (correctedRange k.calibration.knots (x.raw * k.cls.unit))
              ((a * k.cls.step + k.phi) % 65536 / 16) x.intensity))
    ∧ ∀ (knots : List Int) (rt : Nat), knots.length = 17 → rt < 160000 →
      let o0 := knots.getD (rt / 10000) 0
      let o1 := knots.getD (rt / 10000 + 1) 0
      min o0 o1 ≤ correctedRange knots rt - rt ∧ correctedRange knots rt - rt ≤ max o0 o1
        ∧ (rt % 10000 = 0 → correctedRange knots rt - rt = o0)

/-! ### Odometry -/

/-- ENCODER_TRANSITION (R61): the forward order is (low, low), (low, high), (high, high), (high, low). Levels that are those
held are no transition (log 3). -/
def Obligations.EncoderTransitions : Prop :=
  ∀ (s : State) (p1 p2 : Bool),
    let forward : List ((Bool × Bool) × (Bool × Bool)) :=
      [((false, false), (false, true)), ((false, true), (true, true)), ((true, true), (true, false)),
        ((true, false), (false, false))]
    let after (w : WheelRecord) : WheelRecord :=
      if p1 = w.phase1 ∧ p2 = w.phase2 then w
      else if p1 ≠ w.phase1 ∧ p2 ≠ w.phase2 then { w with phase1 := p1, phase2 := p2, illegal := inc32 w.illegal }
      else if ((w.phase1, w.phase2), (p1, p2)) ∈ forward then
        { w with phase1 := p1, phase2 := p2, pending := max (-8388608) (min 8388607 (w.pending + 1)) }
      else { w with phase1 := p1, phase2 := p2, pending := max (-8388608) (min 8388607 (w.pending - 1)) }
    exec (.encoderTransition .a p1 p2) s = .next (endEvent { s with odo := { s.odo with a := after s.odo.a } })
      ∧ exec (.encoderTransition .b p1 p2) s = .next (endEvent { s with odo := { s.odo with b := after s.odo.b } })

/-- ODOMETRY_INTERVAL_EXPIRY (R62). Outside RUNNING and DRAINING the counts are discarded, in ARMED with both remainders set to 0.
In RUNNING and DRAINING they go through the nine stages (R63 to R71, R76, R77): a PRESENT wheel that has been silent over the loss
distance becomes LOST and the other PRESENT, a LOST wheel is restored at the eighth agreeing interval, the slip filter enters and
leaves SLIP, the step and the published mode follow, the correction is slewed in, REVERSED is set where C falls behind H by more
than the tolerance and cleared where they meet, the markers whose threshold H crosses become MISSED in the order in which it
passed them, and the camera line gives one pulse for each trigger point reached. Choices of the model: an expiry that the timer
has not reached has no effect (log 3, log 4); WHEEL_LOST and SLIP carry C before the move, the other events C after it (log 10);
C and H saturate after each addition of stage 6 (log 12); a pulse is counted by the model (log 22). That both wheels become LOST
in one interval is a state no run reaches: the last clause draws it from the law of the wheels, which AlertWheelIntakeKept keeps
with the idle level of the camera line; a loss distance is at least 1 by TablesStayInRange. -/
def Obligations.OdometryInterval : Prop :=
  (∀ s : State,
      (s.odo.interval ≠ some 0 → exec .odometryIntervalExpiry s = .next s)
      ∧ (s.odo.interval = some 0 → s.run.runState ≠ .running → s.run.runState ≠ .draining →
        exec .odometryIntervalExpiry s
          = .next (endEvent
            { s with
              odo :=
                { s.odo with
                  a := { s.odo.a with
                    pending := 0, remainder := if s.run.runState = .armed then 0 else s.odo.a.remainder }
                  b := { s.odo.b with
                    pending := 0, remainder := if s.run.runState = .armed then 0 else s.odo.b.remainder }
                  interval := some (1000 * s.odo.settings.interval) } })))
    ∧ (∀ s : State,
      let o := s.odo
      let x := o.settings
      let up : Bool := decide (s.run.params.direction = .up)
      let nA := o.a.pending
      let nB := o.b.pending
      let dA : Int := (o.a.remainder + nA * x.scaleA) / 65536
      let dB : Int := (o.b.remainder + nB * x.scaleB) / 65536
      let silentA := if nA ≠ 0 then 0 else min 4294967295 (o.a.silentTravel + dB.natAbs)
      let silentB := if nB ≠ 0 then 0 else min 4294967295 (o.b.silentTravel + dA.natAbs)
      -- stage 2
      let lostA : Bool := decide (o.a.status = .present ∧ x.lossDistance ≤ silentA)
      let lostB : Bool := decide (o.b.status = .present ∧ x.lossDistance ≤ silentB)
      let waiting : Bool := !lostA && !lostB && decide (o.a.status = .lost ∨ o.b.status = .lost)
      let agrees : Bool := decide (nA ≠ 0 ∧ nB ≠ 0 ∧ dB.natAbs ≤ 2 * dA.natAbs ∧ dA.natAbs ≤ 2 * dB.natAbs)
      let restored : Bool := waiting && agrees && decide (8 ≤ o.agreement + 1)
      let statusA : WheelStatus := if lostA then .lost else if lostB || restored then .present else o.a.status
      let statusB : WheelStatus := if lostB then .lost else if lostA || restored then .present else o.b.status
      let agreement :=
        if lostA || lostB || restored then 0
        else if waiting then if agrees then o.agreement + 1 else 0 else o.agreement
      let both : Bool := decide (statusA = .present ∧ statusB = .present)
      -- stage 3
      let f0 := if restored then 0 else o.slipFilter
      let m0 := if restored then .normal else o.filterMode
      let d := (dA - dB).natAbs
      let f := if both then min 16777215 ((f0 : Int) + (256 * (d : Int) - f0) / (2 ^ x.weight : Nat)).toNat else f0
      let slips : Bool := both && decide (m0 = .normal ∧ 256 * x.slipThreshold ≤ f)
      let settles : Bool := both && decide (m0 = .slip ∧ f < 128 * x.slipThreshold)
      let m : FilterMode := if slips then .slip else if settles then .normal else m0
      -- stage 4
      let step :=
        if statusA = .lost then dB else if statusB = .lost then dA
        else if m = .normal then rnd (dA + dB) 2 else if dA.natAbs < dB.natAbs then dB else dA
      let mode : OdoMode := if both then if m = .normal then .normal else .slip else .single
      -- stages 5 and 6
      let applied := max (-(x.slewLimit : Int)) (min (x.slewLimit : Int) o.r)
      let c := satChainage (satChainage (if up then o.c + step else o.c - step) + applied)
      let h1 := satChainage (o.h + applied)
      let h := if up then max c h1 else min c h1
      -- stage 7
      let reverses : Bool := decide (o.reversed = false ∧ x.reversalTolerance < (h - c).natAbs)
      -- stage 8
      let crossed (k : Marker) : Bool :=
        decide (k.status = .unseen)
          && if up then decide (o.h ≤ k.position + x.captureWindow ∧ k.position + x.captureWindow < h)
            else decide (h < k.position - x.captureWindow ∧ k.position - x.captureWindow ≤ o.h)
      let missed := if up then s.route.markers.filter crossed else (s.route.markers.filter crossed).reverse
      -- stage 9
      let ahead := if up then h - s.run.params.origin else s.run.params.origin - h
      let pulses := if x.cameraPitch = 0 then 0 else (ahead / x.cameraPitch - o.cameraNext + 1).toNat
      let moved : Odometry :=
        { o with
          a := { o.a with
            pending := 0, remainder := ((o.a.remainder + nA * x.scaleA) % 65536).toNat, status := statusA
            silentTravel := if lostA || restored then 0 else silentA }
          b := { o.b with
            pending := 0, remainder := ((o.b.remainder + nB * x.scaleB) % 65536).toNat, status := statusB
            silentTravel := if lostB || restored then 0 else silentB }
          agreement := agreement
          slipFilter := f
          filterMode := m
          mode := mode
          c := c
          h := h
          r := o.r - applied
          u := satChainage (o.u + step)
          reversed := if reverses then true else if c = h then false else o.reversed
          debounce := o.debounce.map fun n => min 5000 (n + step.natAbs)
          camera := { level := .idle, pulses := o.camera.pulses + pulses }
          cameraNext := o.cameraNext + pulses
          cameraFrames := (o.cameraFrames + pulses) % 4294967296
          interval := some (1000 * x.interval) }
      let s1 :=
        if lostA then raiseSoft (.wheel .a) (.wheelLost silentA o.b.status) s
        else if lostB then raiseSoft (.wheel .b) (.wheelLost silentB o.a.status) s else s
      let s2 := if slips then raiseSoft .odometry (.slip f d dA dB) s1 else s1
      let s3 : State := { s2 with odo := moved }
      let s4 := if reverses then raiseSoft .odometry (.reversal h (h - c).natAbs) s3 else s3
      let miss (t : State) (k : Marker) : State :=
        raiseSoft .odometry (.missedMarker k.position k.label h)
          { t with
            route := { t.route with
              markers := t.route.markers.map fun n => if n.position = k.position then { n with status := .missed } else n }
            run := { t.run with
              counters := { t.run.counters with markersMissed := inc32 t.run.counters.markersMissed } } }
      (o.interval = some 0 → s.run.runState = .running ∨ s.run.runState = .draining → 1 ≤ x.lossDistance →
        ¬(x.lossDistance ≤ silentA ∧ x.lossDistance ≤ silentB) → cameraLaw o →
        exec .odometryIntervalExpiry s = .next (endEvent (missed.foldl miss s4)))
      ∧ (wheelLaw o → 1 ≤ x.lossDistance → ¬(x.lossDistance ≤ silentA ∧ x.lossDistance ≤ silentB)))

/-- MARKER_DETECTION (R72, R73): ignored outside RUNNING and DRAINING, debounced below 5,000 dmm of travel, else taken; with no
marker within the capture window it is UNKNOWN_MARKER, and a chosen marker that is not UNSEEN is REPEAT_MARKER. The marker chosen
is one within the window, none nearer, and of two equally near the one ahead in the run direction. -/
def Obligations.MarkerDetected : Prop :=
  (∀ s : State,
      let taken : Odometry := { s.odo with taken := inc32 s.odo.taken, debounce := some 0 }
      let survey := s.run.runState = .running ∨ s.run.runState = .draining
      (¬survey →
        exec .markerDetection s = .next (endEvent { s with odo := { s.odo with ignored := inc32 s.odo.ignored } }))
      ∧ (∀ n, survey → s.odo.debounce = some n → n < 5000 →
        exec .markerDetection s = .next (endEvent { s with odo := { s.odo with debounced := inc32 s.odo.debounced } }))
      ∧ (survey → (∀ n, s.odo.debounce = some n → 5000 ≤ n) →
        (∀ m ∈ s.route.markers, s.odo.settings.captureWindow < (m.position - s.odo.c).natAbs) →
        exec .markerDetection s
          = .next (endEvent (raiseSoft .odometry (.unknownMarker s.odo.settings.captureWindow)
            { s with
              odo := taken
              run := { s.run with
                counters := { s.run.counters with markersUnknown := inc32 s.run.counters.markersUnknown } } })))
      ∧ (∀ m, survey → (∀ n, s.odo.debounce = some n → 5000 ≤ n) → chosenMarker s = some m → m.status ≠ .unseen →
        exec .markerDetection s
          = .next (endEvent (raiseSoft .odometry (.repeatMarker m.position m.label m.status) { s with odo := taken }))))
    ∧ (∀ s : State,
      (chosenMarker s = none ↔
        ∀ m ∈ s.route.markers, s.odo.settings.captureWindow < (m.position - s.odo.c).natAbs)
      ∧ ∀ m, chosenMarker s = some m →
        m ∈ s.route.markers ∧ (m.position - s.odo.c).natAbs ≤ s.odo.settings.captureWindow
          ∧ ∀ n ∈ s.route.markers,
            (m.position - s.odo.c).natAbs ≤ (n.position - s.odo.c).natAbs
              ∧ ((n.position - s.odo.c).natAbs = (m.position - s.odo.c).natAbs → n.position ≠ m.position →
                if s.run.params.direction = .up then n.position < m.position else m.position < n.position))

/-- What a match makes of a marker in the list (R74). -/
def Obligations.MarkerMatched : Prop :=
  ∀ (s : State) (m : Marker), s.run.runState = .running ∨ s.run.runState = .draining →
    (∀ n, s.odo.debounce = some n → 5000 ≤ n) → chosenMarker s = some m → m.status = .unseen →
    let matched : State :=
      { s with
        odo :=
          { s.odo with
            taken := inc32 s.odo.taken
            debounce := some 0
            r := max (-(s.odo.settings.captureWindow : Int))
              (min (s.odo.settings.captureWindow : Int) (s.odo.r + (m.position - s.odo.c)))
            lastMatched := some ⟨m.position, m.label⟩
            u := 0 }
        route :=
          { s.route with
            markers := s.route.markers.map fun n =>
              if n.position = m.position then { n with status := .matched } else n }
        run := { s.run with
          counters := { s.run.counters with markersMatched := inc32 s.run.counters.markersMatched } } }
    ((s.odo.settings.recalEnable = false ∨ s.odo.lastMatched = none
        ∨ ∃ prev, s.odo.lastMatched = some prev
          ∧ (m.position - prev.position).natAbs < s.odo.settings.recalBaseline) →
      exec .markerDetection s = .next (endEvent matched))
    ∧ ∀ prev, s.odo.settings.recalEnable = true → s.odo.lastMatched = some prev →
      s.odo.settings.recalBaseline ≤ (m.position - prev.position).natAbs →
      let delta := (m.position - prev.position).natAbs
      let oldA := s.odo.settings.scaleA
      let oldB := s.odo.settings.scaleB
      let newA := oldA * delta / s.odo.u.toNat
      let newB := oldB * delta / s.odo.u.toNat
      let good (old new : Nat) : Prop :=
        new ≤ old + old * 2 / 100 ∧ old ≤ new + old * 2 / 100 ∧ 32768 ≤ new ∧ new ≤ 1310720
      (s.odo.u ≤ 0 →
        exec .markerDetection s
          = .next (endEvent (raiseSoft .odometry (.recalRefused m.label delta s.odo.u oldA oldB none) matched)))
      ∧ (0 < s.odo.u → good oldA newA → good oldB newB →
        exec .markerDetection s
          = .next (endEvent (offerEvent
            (makeEvent s .odometry (.recalibrated m.label delta s.odo.u oldA oldB newA newB))
            { matched with
              odo := { matched.odo with
                settings := { s.odo.settings with scaleA := newA, scaleB := newB } } })))
      ∧ (0 < s.odo.u → ¬(good oldA newA ∧ good oldB newB) →
        exec .markerDetection s
          = .next (endEvent (raiseSoft .odometry
            (.recalRefused m.label delta s.odo.u oldA oldB (some (newA, newB))) matched)))

/-! ### Profile assembly and clearance -/

/-- The closure of a context (R115, R117, R127, R139): the sequence counter, the closed line, the count of profiles closed and the set
move; the Comparator counts the profile and, where the alert condition is met, asserts the line and starts or restarts the hold
timer (R140); then the INTRUSION record of a profile with a run (R138), the ALERT event where the line was asserted now, and the
PROFILE record with the reason flag of the closure (R114) and the header of R136 and R132 are offered, in this order. Closures one
after another: each takes its sequence number, and an INTRUSION record is lost in one of them exactly when the count of lost ones
says so. CLOSE_TIMER_EXPIRY (R114, R121, R192): every older context closes EARLY and the named one TIMED_OUT, the younger ones
stay; the closed line follows. The run goes on, or an INTRUSION record lost within the closures puts it in HALTED with every
context closed. A timer that has not expired has no effect (log 3). -/
def Obligations.CloseTimerExpires : Prop :=
  (∀ (reason : Option CloseReason) (c : Context) (s : State),
      let p := s.run.params
      let sectors := assessSectors p s.route c
      let runs := intrusionRuns sectors
      let depth := maxDepthOf runs
      let number (x : SectorClass) : Nat := (sectors.filter fun a => decide (a.cls = x)).length
      let entry : Option EntryCopy :=
        match c.copy with
        | .entry e => some e
        | .outside => none
        | .unmappedCell _ => none
      let alerting : Bool :=
        match entry, depth with
        | some e, some d => e.alertEnable && decide (p.alertDepth ≤ d)
        | _, _ => false
      let asserted : Bool := alerting && !s.comparator.alertLine
      let sequence := s.assembler.sequence
      let closed : State :=
        { s with
          run := { s.run with
            counters := { s.run.counters with profilesClosed := inc32 s.run.counters.profilesClosed } }
          assembler :=
            { s.assembler with
              sequence := (sequence + 1) % 4294967296
              closedLine := c.station + 1
              contexts := s.assembler.contexts.filter fun d => decide (d.station ≠ c.station) }
          comparator :=
            { s.comparator with
              assessed := inc32 s.comparator.assessed
              intruding := if runs = [] then s.comparator.intruding else inc32 s.comparator.intruding
              alertLine := s.comparator.alertLine || alerting
              hold := if alerting then some (1000 * p.alertHold) else s.comparator.hold
              lastAlert := if alerting then some ⟨sequence, c.station⟩ else s.comparator.lastAlert
              assertions := if asserted then inc32 s.comparator.assertions else s.comparator.assertions } }
      let intrusion : IntrusionRecord :=
        { sequence := sequence, station := c.station, closeTime := s.run.timebase, frames := s.odo.cameraFrames
          entry := entry.map EntryCopy.entry, envelope := entry.map EntryCopy.envelope
          runCount := runs.length, maxDepth := depth, fullRing := decide (number .intrusion = 128)
          moreRuns := decide (8 < runs.length), alerting := alerting, runs := runs.take 8 }
      let offered := if runs = [] then (closed, false) else offerIntrusion intrusion closed
      let told :=
        if asserted then
          offerEvent
            ⟨.comparator, s.run.timebase, s.odo.c,
              .alert sequence c.station ((entry.map EntryCopy.entry).getD 65535) (depth.getD 0) runs.length⟩
            offered.1
        else offered.1
      let spanned (t : HeadTally) : Nat :=
        if t.slices = 0 then 0 else min 255 ((((t.last.getD 0 : Int) - t.first.getD 0) % 65536).toNat + 1)
      let header : ProfileHeader :=
        { sequence := sequence, station := c.station
          flags :=
            { reason := reason
              unmapped := entry.isNone
              noAssess := decide (entry.map EntryCopy.zone = some .noAssess)
              slip := decide (c.worst = .slip), single := decide (c.worst = .single)
              headWarn := c.warnSeen, gap := c.gapSeen
              sparse :=
                decide (∃ q ∈ [HeadId.h0, HeadId.h1, HeadId.h2],
                  (s.ports.get q).state = .streaming ∧ (c.tallies.get q).slices = 0)
              intruded := decide (number .intrusion ≠ 0), marginal := decide (number .near ≠ 0)
              alerting := alerting, moreRuns := decide (8 < runs.length)
              fullRing := decide (number .intrusion = 128) }
          openTime := c.openTime, closeTime := s.run.timebase, frames := s.odo.cameraFrames
          slices := ⟨c.tallies.h0.slices, c.tallies.h1.slices, c.tallies.h2.slices⟩
          spans := ⟨spanned c.tallies.h0, spanned c.tallies.h1, spanned c.tallies.h2⟩
          entry := entry.map EntryCopy.entry, envelope := entry.map EntryCopy.envelope
          inner := (entry.map fun e => innerThrow e.radius p.bogieCentres).getD 0
          outer := (entry.map fun e => outerThrow e.radius p.bogieCentres p.vehicleLength).getD 0
          leastMargin := (leastMargin sectors).map Prod.fst, leastSector := (leastMargin sectors).map Prod.snd
          runCount := runs.length, maxDepth := depth
          voidCount := number .void, nearCount := number .near, intrusionCount := number .intrusion }
      closeContext reason c s
        = (offerProfile
            ⟨header, sectors.map fun a => ⟨a.acc.minRadius, a.acc.count, a.cls, a.acc.heads⟩, groupsOf sectors⟩ told,
          offered.2))
    ∧ (∀ (reason : Context → Option CloseReason) (cs : List Context) (last : Context) (s : State),
      cs.getLast? = some last →
      let d := closures reason cs s
      Frame [.run, .assembler, .comparator, .queue, .faults] s d.1
        ∧ d.1.assembler.contexts
          = (s.assembler.contexts.filter fun x => decide (∀ c ∈ cs, x.station ≠ c.station))
        ∧ d.1.assembler.closedLine = last.station + 1
        ∧ d.1.assembler.sequence = (s.assembler.sequence + cs.length) % 4294967296
        ∧ d.1.run.counters.profilesClosed = min 4294967295 (s.run.counters.profilesClosed + cs.length)
        ∧ d.1.comparator.assessed = min 4294967295 (s.comparator.assessed + cs.length)
        ∧ d.1.run.runState = s.run.runState ∧ d.1.run.params = s.run.params
        ∧ (d.2 = false → d.1.faults.hard = s.faults.hard ∧ d.1.faults.hardReported = s.faults.hardReported
          ∧ d.1.queue.counters.intrusionLost = s.queue.counters.intrusionLost
          ∧ d.1.run.counters.intrusionsDropped = s.run.counters.intrusionsDropped)
        ∧ (d.2 = true → s.run.counters.intrusionsDropped < 4294967295 →
          s.run.counters.intrusionsDropped < d.1.run.counters.intrusionsDropped))
    ∧ ∀ (j : Nat) (s : State) (c : Context), contextLaw s → s.run.runState = .running → c ∈ s.assembler.contexts →
      c.station = j →
      (c.timer ≠ some 0 → exec (.closeTimerExpiry j) s = .next s)
      ∧ (c.timer = some 0 →
        exec (.closeTimerExpiry j) s
            = .next (endEvent (afterClosures
              (closures (fun d => some (if d.station = j then .timedOut else .early))
                (s.assembler.contexts.filter fun d => decide (d.station ≤ j)) s)))
          ∧ ∃ t, exec (.closeTimerExpiry j) s = .next t
          ∧ Frame [.run, .odo, .assembler, .comparator, .queue, .faults] s t
          ∧ ((t.run.runState = .running ∧ t.odo = s.odo ∧ t.assembler.closedLine = j + 1
              ∧ t.assembler.contexts = s.assembler.contexts.filter fun d => decide (j < d.station))
            ∨ (t.run.runState = .halted ∧ t.assembler.contexts = []
              ∧ t.odo = { s.odo with h := s.odo.c, r := 0, reversed := false }))
          ∧ t.comparator.assessed
            = min 4294967295 (s.comparator.assessed + (s.assembler.contexts.length - t.assembler.contexts.length))
          ∧ t.run.counters.profilesClosed
            = min 4294967295
              (s.run.counters.profilesClosed + (s.assembler.contexts.length - t.assembler.contexts.length))
          ∧ t.assembler.sequence
            = (s.assembler.sequence + (s.assembler.contexts.length - t.assembler.contexts.length)) % 4294967296)

/-- HEAD_LOSS_TIMER_EXPIRY and LINK_LOSS_TIMER_EXPIRY (R187 to R189, R191): the hard fault is captured where its slot is free, its
EVENT record is offered, every context closes ABORTED, the RUN_END record with reason HALTED and the fault's kind is offered and
reports those closures, and the run enters HALTED with C handed over and both timers stopped. ALERT_HOLD_EXPIRY (R141) releases
the alert line without an EVENT record. A timer that has not expired has no effect (log 3). -/
def Obligations.LossAndHoldTimersExpire : Prop :=
  (∀ (s : State) (c : Instr) (timer : Timer) (kind : EventKind) (source : Source),
      (c, timer, kind, source)
        ∈ [(Instr.headLossTimerExpiry, s.faults.headLoss, EventKind.headsLost, Source.headPorts),
          (Instr.linkLossTimerExpiry, s.faults.linkLoss, EventKind.linkLost, Source.trunkLink)] →
      (timer ≠ some 0 → exec c s = .next s)
      ∧ (timer = some 0 → s.run.runState = .running ∨ s.run.runState = .draining →
        ∃ t, exec c s = .next t
          ∧ Frame [.run, .odo, .assembler, .comparator, .queue, .faults] s t
          ∧ t.run.runState = .halted ∧ t.assembler.contexts = []
          ∧ t.odo = { s.odo with h := s.odo.c, r := 0, reversed := false }
          ∧ t.faults.headLoss = none ∧ t.faults.linkLoss = none
          ∧ (s.faults.hard.lock = true → t.faults.hard.record = s.faults.hard.record)
          ∧ (s.faults.hard.lock = false →
            ∃ r, t.faults.hard.record = some r ∧ t.faults.hard.lock = true ∧ r.kind = kind ∧ r.source = source
              ∧ r.time = s.run.timebase ∧ r.chainage = s.odo.c
              ∧ r.station = s.assembler.contexts.head?.map Context.station)
          ∧ ∃ e, (Record.runEnd e ∈ t.queue.control ∨ Record.runEnd e ∈ t.queue.holder)
            ∧ e.reason = .halted ∧ e.haltFault = some kind ∧ e.runNumber = s.run.runNumber
            ∧ e.startTime = s.run.startTime ∧ e.endTime = s.run.timebase ∧ e.finalC = s.odo.c ∧ e.finalH = s.odo.h
            ∧ (s.assembler.contexts ≠ [] →
              e.counters.profilesClosed
                  = min 4294967295 (s.run.counters.profilesClosed + s.assembler.contexts.length)
                ∧ e.lastSequence
                  = some ((s.assembler.sequence + s.assembler.contexts.length + 4294967295) % 4294967296))))
    ∧ (∀ s : State, s.run.runState = .running ∨ s.run.runState = .draining →
      let lowest := s.assembler.contexts.head?.map Context.station
      let captured (r : FaultRecord) : FaultCapture :=
        { s.faults with
          hard :=
            if s.faults.hard.lock then { s.faults.hard with lost := min 255 (s.faults.hard.lost + 1) }
            else { s.faults.hard with record := some r, lock := true }
          hardReported := inc32 s.faults.hardReported }
      let heads := s.ports.map Port.state
      let states := portStateCode heads.h0 + 256 * portStateCode heads.h1 + 65536 * portStateCode heads.h2
      (s.faults.headLoss = some 0 →
        exec .headLossTimerExpiry s
          = .next (endEvent (haltedBy .headsLost (offerEvent
            ⟨.headPorts, s.run.timebase, s.odo.c, .headsLost lowest s.run.params.headLossLimit heads⟩
            { s with
              faults :=
                { captured ⟨.headsLost, .headPorts, s.run.timebase, s.odo.c, lowest, s.run.params.headLossLimit, states⟩ with
                  headLoss := none } }))))
      ∧ (s.faults.linkLoss = some 0 →
        exec .linkLossTimerExpiry s
          = .next (endEvent (haltedBy .linkLost (offerEvent
            ⟨.trunkLink, s.run.timebase, s.odo.c, .linkLost lowest s.run.params.linkLossLimit (occupancy s.queue)⟩
            { s with
              faults :=
                { captured ⟨.linkLost, .trunkLink, s.run.timebase, s.odo.c, lowest, s.run.params.linkLossLimit,
                    occupancy s.queue⟩ with
                  linkLoss := none } })))))
    ∧ (∀ s : State,
      (s.comparator.hold ≠ some 0 → exec .alertHoldExpiry s = .next s)
      ∧ (s.comparator.hold = some 0 →
        exec .alertHoldExpiry s
          = .next (endEvent { s with comparator := { s.comparator with alertLine := false, hold := none } })))

/-- The class and margin of a sector (R130, R131), by the rows in their order. The throws (R103) are the exact ceilings clamped to
5,000, 0 on a straight. The inner throw applies on the inside of the curve, and the widening (R129) never exceeds its throw and is
at least 1 where the throw is. -/
def Obligations.SectorClearance : Prop :=
  (∀ (p : RunParams) (copy : RouteCopy) (limit s : Nat) (acc : SectorAcc),
      let a := assessSector p copy limit s acc
      (acc.count = 0 → a.cls = .void ∧ a.margin = none)
      ∧ (acc.count ≠ 0 → (∀ e, copy = .entry e → e.zone = .noAssess ∨ limit = 0) → a.cls = .unassessed ∧ a.margin = none)
      ∧ ∀ e rho, acc.count ≠ 0 → copy = .entry e → e.zone = .assess → limit ≠ 0 → acc.minRadius = some rho →
        let w := limit + widening e.radius (innerThrow e.radius p.bogieCentres)
          (outerThrow e.radius p.bogieCentres p.vehicleLength) s
        let m : Int := (rho : Int) - w
        a.margin = some m
          ∧ a.cls = (if m < 0 then .intrusion else if m < e.margin then .near else .clear))
    ∧ ((∀ (radius : Int) (lc lo : Nat), lc ≤ lo →
      (radius = 0 → innerThrow radius lc = 0 ∧ outerThrow radius lc lo = 0)
      ∧ (radius ≠ 0 →
        (innerThrow radius lc : ℤ) = min 5000 ⌈((lc : ℚ) ^ 2) / (800 * |(radius : ℚ)|)⌉
          ∧ (outerThrow radius lc lo : ℤ) = min 5000 ⌈((lo : ℚ) ^ 2 - (lc : ℚ) ^ 2) / (800 * |(radius : ℚ)|)⌉))
      ∧ ∀ (radius : Int) (inner outer s : Nat), radius ≠ 0 → s < 128 → inner ≤ 5000 → outer ≤ 5000 →
        let right := s < 32 ∨ 96 ≤ s
        let throw := if right ∧ 0 < radius ∨ ¬right ∧ radius < 0 then inner else outer
        (widening radius inner outer s : ℤ)
            = ⌈((throw : ℚ) * |(cosine (32 * s + 16) : ℚ)|) / 32767⌉
          ∧ widening radius inner outer s ≤ throw ∧ (1 ≤ throw → 1 ≤ widening radius inner outer s))

/-- The intrusion runs of a profile (R133, R134). With a search start, the lowest sector that is not INTRUSION, each INTRUSION sector
lies in exactly one run; the runs are numbered by the place of their first sector in the visit, which goes round from the sector
after the search start; and no run can be longer, for the sector before its first and the one after its last are not INTRUSION.
With none, the one run is the full ring. There are at most 64; each runs from its first sector to its last around the ring, over
INTRUSION sectors only, and its depth is the greatest shortfall among them, found first at its deepest sector. The maximum depth
is the greatest depth of all, and the least margin of a profile is the least of its sectors' margins, with the first sector that
has it (R132). -/
def Obligations.IntrusionRuns : Prop :=
  ∀ (p : RunParams) (rm : RouteMap) (ctx : Context),
    let sectors := assessSectors p rm ctx
    let runs := intrusionRuns sectors
    (runs.map IntrusionRun.count).sum = classCount .intrusion sectors
      ∧ runs.length ≤ 64
      ∧ (∀ r ∈ runs,
        1 ≤ r.count ∧ r.count ≤ 128 ∧ r.first < 128 ∧ r.last = (r.first + r.count - 1) % 128
          ∧ (∀ i < r.count, ∃ a, sectors[(r.first + i) % 128]? = some a ∧ a.cls = .intrusion
            ∧ shortfall a ≤ r.depth)
          ∧ ∃ i < r.count, r.deepest = (r.first + i) % 128
            ∧ ∃ a, sectors[(r.first + i) % 128]? = some a ∧ shortfall a = r.depth
              ∧ r.deepestRadius = a.acc.minRadius.getD 0
              ∧ ∀ i' < i, ∃ b, sectors[(r.first + i') % 128]? = some b ∧ shortfall b < r.depth)
      ∧ (∀ f, searchStart sectors = some f →
        (∃ a, sectors[f]? = some a ∧ a.cls ≠ .intrusion)
          ∧ (∀ x < f, ∃ a, sectors[x]? = some a ∧ a.cls = .intrusion)
          ∧ (∀ x < 128, (∃ a, sectors[x]? = some a ∧ a.cls = .intrusion) →
            ∃! r, r ∈ runs ∧ ∃ i < r.count, x = (r.first + i) % 128)
          ∧ (let place (x : Nat) : Nat := (x + 127 - f) % 128
            runs.Pairwise fun r r' => place r.first + r.count < place r'.first)
          ∧ ∀ r ∈ runs,
            (∃ a, sectors[(r.first + 127) % 128]? = some a ∧ a.cls ≠ .intrusion)
              ∧ ∃ a, sectors[(r.last + 1) % 128]? = some a ∧ a.cls ≠ .intrusion)
      ∧ (searchStart sectors = none →
        (∀ x < 128, ∃ a, sectors[x]? = some a ∧ a.cls = .intrusion)
          ∧ ∃ r, runs = [r] ∧ r.first = 0 ∧ r.last = 127 ∧ r.count = 128)
      ∧ (maxDepthOf runs = none ↔ runs = [])
      ∧ (∀ d, maxDepthOf runs = some d ↔ (∃ r ∈ runs, r.depth = d) ∧ ∀ r ∈ runs, r.depth ≤ d)
      ∧ (leastMargin sectors = none ↔ ∀ a ∈ sectors, a.margin = none)
      ∧ ∀ m x, leastMargin sectors = some (m, x) ↔
        (∃ a, sectors[x]? = some a ∧ a.margin = some m)
          ∧ (∀ b ∈ sectors, ∀ n, b.margin = some n → m ≤ n)
          ∧ ∀ y < x, ∀ b, sectors[y]? = some b → b.margin ≠ some m

/-! ### Outbound queue -/

/-- The arbiter's choice at the end of an event (R149), and all else that the end of an event leaves as it is. -/
def Obligations.ArbiterChoosesOldestControl : Prop :=
  ∀ s : State,
    endEvent s
      = { s with
        queue :=
          { s.queue with
            sending :=
              if s.queue.sending = none ∧ s.queue.linkUp = true then
                if s.queue.control ≠ [] then some .control else if s.queue.data ≠ [] then some .data else none
              else s.queue.sending } }

/-- A soft fault (R157, R183, R185, R186): its EVENT record joins the control list when it fits, else it is counted lost and
EVENT_LOSS is counted; the fault is captured where the soft slot is free, else counted there. -/
def Obligations.SoftFaultRaised : Prop :=
  ∀ (source : Source) (detail : EventDetail) (s : State),
    let e : EventRecord := ⟨source, s.run.timebase, s.odo.c, detail⟩
    let r : FaultRecord :=
      ⟨eventKind detail, source, s.run.timebase, s.odo.c, faultStation detail, faultDetail1 detail, faultDetail2 detail⟩
    let fits := occupancy s.queue + holderClaim s.queue + s.queue.responseClaim + 32 ≤ 65536
    let slot (lost : Nat) : Slot :=
      if s.faults.soft.lock then { s.faults.soft with lost := min 255 (lost + 1) }
      else { record := some r, lock := true, lost := lost }
    (fits →
      raiseSoft source detail s
        = { s with
          queue := { s.queue with control := s.queue.control ++ [.event e] }
          faults :=
            { s.faults with soft := slot s.faults.soft.lost, softReported := inc32 s.faults.softReported } })
    ∧ (¬fits →
      raiseSoft source detail s
        = { s with
          queue := { s.queue with counters := { s.queue.counters with eventLost := inc32 s.queue.counters.eventLost } }
          run := { s.run with
            counters := { s.run.counters with eventsDropped := inc32 s.run.counters.eventsDropped } }
          faults :=
            { s.faults with
              soft := slot (min 255 (s.faults.soft.lost + 1))
              softReported := inc32 (inc32 s.faults.softReported) } })

/-- A PROFILE offer (R152, R153): the level from the data occupancy and the marks, then the first form from that of the level on
that fits; when SUMMARY does not fit, the profile is dropped with soft event PROFILE_DROPPED. -/
def Obligations.ProfileOffered : Prop :=
  ∀ (c : ProfileContent) (s : State),
    let o := dataOccupancy s.queue
    let p := s.run.params
    let level :=
      if panicMark p.panicCode ≤ o then 5
      else if highMark p.highCode ≤ o then min (s.queue.level + 1) 5
      else if o ≤ hysteresisMark p.hysteresisCode then max (s.queue.level - 1) s.queue.floor
      else s.queue.level
    let k := s.queue.counters
    let fits (n : Nat) : Prop :=
      occupancy s.queue + holderClaim s.queue + s.queue.responseClaim + n ≤ 65536 ∧ o + n ≤ 61440
    (level ≤ 3 → fits 560 →
      offerProfile c s
        = { s with
          queue := { s.queue with
            level := level, data := s.queue.data ++ [.profile c.header (.full c.sectors)]
            counters := { k with formsFull := inc32 k.formsFull } } })
    ∧ (level ≤ 4 → (level ≤ 3 → ¬fits 560) → fits 176 →
      offerProfile c s
        = { s with
          queue := { s.queue with
            level := level, data := s.queue.data ++ [.profile c.header (.compact c.groups)]
            counters := { k with formsCompact := inc32 k.formsCompact } } })
    ∧ ((level ≤ 3 → ¬fits 560) → (level ≤ 4 → ¬fits 176) → fits 48 →
      offerProfile c s
        = { s with
          queue := { s.queue with
            level := level, data := s.queue.data ++ [.profile c.header .summary]
            counters := { k with formsSummary := inc32 k.formsSummary } } })
    ∧ (¬fits 48 →
      offerProfile c s
        = raiseSoft .outboundQueue (.profileDropped c.header.sequence c.header.station level o)
          { s with
            queue := { s.queue with
              level := level, counters := { k with profileDropped := inc32 k.profileDropped } }
            run := { s.run with
              counters := { s.run.counters with profilesDropped := inc32 s.run.counters.profilesDropped } } })

/-- The decimation of a point list (R154): at level l the points kept are those met when the head's keep counter is a multiple of
2^l, none from level 3 on; the counter advances by one for each point, modulo 4, and no other head's counter moves.
The POINTS record of a slice (R155): built from the kept points, it joins the data list when it fits and is dropped and
counted when it does not; with no point kept nothing but the keep counter changes. -/
def Obligations.PointsDecimatedAndOffered : Prop :=
  ((∀ (level counter : Nat) (points : List CorrectedPoint), counter < 4 →
      (decimate level counter points).2 = (counter + points.length) % 4
      ∧ (decimate level counter points).1
        = (((List.range points.length).filter fun i => decide (level ≤ 2 ∧ (counter + i) % 2 ^ level = 0)).filterMap
            fun i => points[i]?).map fun q => ⟨q.y, q.z, q.intensity⟩)
      ∧ ∀ (sl : PassedSlice) (points : List CorrectedPoint) (s : State),
        s.queue.keep.get sl.head < 4 →
        (offerPoints sl points s).queue.keep.get sl.head = (s.queue.keep.get sl.head + points.length) % 4
          ∧ ∀ q, q ≠ sl.head → (offerPoints sl points s).queue.keep.get q = s.queue.keep.get q)
    ∧ (∀ (sl : PassedSlice) (points : List CorrectedPoint) (s : State),
      let kept := (decimate s.queue.level (s.queue.keep.get sl.head) points).1
      let keep := s.queue.keep.set sl.head (decimate s.queue.level (s.queue.keep.get sl.head) points).2
      let size := 24 + 7 * kept.length
      let fits := occupancy s.queue + holderClaim s.queue + s.queue.responseClaim + size ≤ 65536
        ∧ dataOccupancy s.queue + size ≤ 61440
      (kept = [] → offerPoints sl points s = { s with queue := { s.queue with keep := keep } })
      ∧ (kept ≠ [] → fits →
        offerPoints sl points s
          = { s with
            queue := { s.queue with
              keep := keep
              data := s.queue.data
                ++ [.points ⟨sl.head, s.queue.level, sl.revolution, sl.start, sl.samples.length, sl.arrival, sl.chainage, kept⟩]
              counters := { s.queue.counters with
                pointsKept := min 4294967295 (s.queue.counters.pointsKept + kept.length) } } })
      ∧ (kept ≠ [] → ¬fits →
        offerPoints sl points s
          = { s with
            queue := { s.queue with
              keep := keep
              counters := { s.queue.counters with pointsDropped := inc32 s.queue.counters.pointsDropped } }
            run := { s.run with
              counters := { s.run.counters with pointsDropped := inc32 s.run.counters.pointsDropped } } }))

/-- An INTRUSION and a RUN_END record at the queue (R158, R159, R190): they join the control list, wait in the holder, or, for an
INTRUSION that finds two others waiting, are lost, with hard fault INTRUSION_LOST. -/
def Obligations.IntrusionWaitsOrIsLost : Prop :=
  ∀ (r : IntrusionRecord) (e : RunEndRecord) (s : State),
    let fits (n : Nat) : Prop := occupancy s.queue + s.queue.responseClaim + n ≤ 65536
    let size := 24 + 8 * r.runs.length
    (s.queue.holder = [] → fits size →
      offerIntrusion r s = ({ s with queue := { s.queue with control := s.queue.control ++ [.intrusion r] } }, false))
    ∧ ((s.queue.holder = [] ∧ ¬fits size) ∨ (s.queue.holder ≠ [] ∧ heldIntrusions s.queue < 2) →
      offerIntrusion r s = ({ s with queue := { s.queue with holder := s.queue.holder ++ [.intrusion r] } }, false))
    ∧ (2 ≤ heldIntrusions s.queue →
      (offerIntrusion r s).2 = true
        ∧ Frame [.queue, .run, .faults] s (offerIntrusion r s).1
        ∧ (offerIntrusion r s).1.queue.holder = s.queue.holder
        ∧ (offerIntrusion r s).1.queue.counters.intrusionLost = inc32 s.queue.counters.intrusionLost
        ∧ (offerIntrusion r s).1.run.counters.intrusionsDropped = inc32 s.run.counters.intrusionsDropped
        ∧ (offerIntrusion r s).1.run.runState = s.run.runState
        ∧ (offerIntrusion r s).1.faults.hardReported = inc32 s.faults.hardReported)
    ∧ (s.queue.holder = [] → fits 64 →
      offerRunEnd e s = { s with queue := { s.queue with control := s.queue.control ++ [.runEnd e] } })
    ∧ ((s.queue.holder = [] ∧ ¬fits 64) ∨ s.queue.holder ≠ [] →
      offerRunEnd e s = { s with queue := { s.queue with holder := s.queue.holder ++ [.runEnd e] } })

/-- TRANSMISSION_COMPLETE (R150, R13, R14, R160): the record leaves its list and is counted, the holder is served, and a run in
DRAINING ends with its own RUN_END of reason STOPPED. With no record in transmission nothing completes (log 3). -/
def Obligations.TransmissionCompletes : Prop :=
  ∀ s : State,
    let counted := { s.queue.counters with transmitted := inc32 s.queue.counters.transmitted }
    let ends (r : Record) : Prop :=
      ∃ e, r = .runEnd e ∧ s.run.runState = .draining ∧ e.runNumber = s.run.runNumber ∧ e.reason = .stopped
    (s.queue.sending = none → exec .transmissionComplete s = .next (endEvent s))
    ∧ (∀ r rest, s.queue.sending = some .data → s.queue.data = r :: rest → ¬ends r →
      exec .transmissionComplete s
        = .next (endEvent
          { s with
            queue := serveHolder { s.queue with data := rest, sending := none, counters := counted } }))
    ∧ (∀ r rest, s.queue.sending = some .control → s.queue.control = r :: rest → ¬ends r →
      exec .transmissionComplete s
        = .next (endEvent
          { s with
            queue := serveHolder { s.queue with control := rest, sending := none, counters := counted } }))
    ∧ ∀ r rest, s.queue.sending = some .control → s.queue.control = r :: rest → ends r →
      exec .transmissionComplete s
        = .next (endEvent
          { s with
            queue := serveHolder { s.queue with control := rest, sending := none, counters := counted }
            run := { s.run with runState := .ended }
            odo := { s.odo with h := s.odo.c, r := 0, reversed := false }
            faults := { s.faults with linkLoss := none } })

/-- TRUNK_LINK_DOWN and TRUNK_LINK_UP (R151, R189, R13): the link state; a record in transmission is abandoned and counted, and the
current run's RUN_END is offered again in DRAINING; the link-loss timer starts in a survey and stops when the link is UP. -/
def Obligations.TrunkLinkCarrier : Prop :=
  ∀ s : State,
    let timed : FaultCapture :=
      { s.faults with
        linkLoss :=
          if (s.run.runState = .running ∨ s.run.runState = .draining) ∧ s.faults.linkLoss = none then
            some (1000 * s.run.params.linkLossLimit)
          else s.faults.linkLoss }
    let counted := { s.queue.counters with txAbandoned := inc32 s.queue.counters.txAbandoned }
    let again (r : Record) : Prop :=
      ∃ e, r = .runEnd e ∧ s.run.runState = .draining ∧ e.runNumber = s.run.runNumber
    (s.queue.sending = none →
      exec .trunkLinkDown s = .next { s with queue := { s.queue with linkUp := false }, faults := timed })
    ∧ (∀ r rest, s.queue.sending = some .data → s.queue.data = r :: rest → ¬again r →
      exec .trunkLinkDown s
        = .next
          { s with
            queue := serveHolder
              { s.queue with linkUp := false, data := rest, sending := none, counters := counted }
            faults := timed })
    ∧ (∀ r rest, s.queue.sending = some .control → s.queue.control = r :: rest → ¬again r →
      exec .trunkLinkDown s
        = .next
          { s with
            queue := serveHolder
              { s.queue with linkUp := false, control := rest, sending := none, counters := counted }
            faults := timed })
    ∧ (∀ r rest, s.queue.sending = some .control → s.queue.control = r :: rest → again r → s.queue.holder = [] →
      occupancy s.queue + s.queue.responseClaim ≤ 65536 →
      exec .trunkLinkDown s
        = .next
          { s with
            queue := { s.queue with linkUp := false, control := rest ++ [r], sending := none, counters := counted }
            faults := timed })
    ∧ exec .trunkLinkUp s
      = .next (endEvent
        { s with queue := { s.queue with linkUp := true }, faults := { s.faults with linkLoss := none } })

/-- The content of every record has the size that the queue counts for it (R144, R196 to R200). -/
def Obligations.RecordsHaveTheirSize : Prop :=
  ∀ r : Record,
    (∀ h sectors, r = .profile h (.full sectors) → sectors.length = 128) →
    (∀ h groups, r = .profile h (.compact groups) → groups.length = 32) →
    (recordBytes r).length = recordSize r

/-! ### Inbound frames -/

/-- TRUNK_FRAME_TOO_LONG, TRUNK_FRAME_DISCARDED and REQUEST (R165, R166) on a trunk link that is UP: the counts of discarded frames,
and a good request at the end of an intake of fewer than 4, else dropped. That a frame too long is not a frame received whole is
the model's (log 17). A DOWN link brings none (R151, R189), so there each of the three is no event and changes nothing (log 9). -/
def Obligations.InboundFrames : Prop :=
  (∀ (s : State) (c : Instr), s.queue.linkUp = false →
      (c = .trunkFrameTooLong ∨ (∃ kind payload crc, c = .trunkFrameDiscarded kind payload crc)
        ∨ ∃ tag kind payload, c = .request tag kind payload) → exec c s = .next s)
    ∧ ∀ s : State, s.queue.linkUp = true →
    exec .trunkFrameTooLong s
        = .next (endEvent { s with mgmt := { s.mgmt with malformed := inc32 s.mgmt.malformed } })
    ∧ (∀ (kind : Byte) (payload : List Byte) (crc : BitVec 32), payload.length ≤ 1026 → crc ≠ trunkCrc kind payload →
      exec (.trunkFrameDiscarded kind payload crc) s
        = .next (endEvent
          { s with
            mgmt := { s.mgmt with
              framesReceived := inc32 s.mgmt.framesReceived, crcBad := inc32 s.mgmt.crcBad } }))
    ∧ (∀ (kind : Byte) (payload : List Byte), payload.length ≤ 1026 → kind ≠ 32 ∨ payload.length < 2 →
      exec (.trunkFrameDiscarded kind payload (trunkCrc kind payload)) s
        = .next (endEvent
          { s with
            mgmt := { s.mgmt with
              framesReceived := inc32 s.mgmt.framesReceived, malformed := inc32 s.mgmt.malformed } }))
    ∧ ∀ (tag kind : Byte) (payload : List Byte), payload.length ≤ 1024 →
      exec (.request tag kind payload) s
        = .next (endEvent
          { s with
            mgmt :=
              if s.mgmt.intake.length < 4 then
                { s.mgmt with
                  framesReceived := inc32 s.mgmt.framesReceived, intake := s.mgmt.intake ++ [⟨tag, kind, payload⟩] }
              else
                { s.mgmt with
                  framesReceived := inc32 s.mgmt.framesReceived, dropped := inc32 s.mgmt.dropped } })

/-! ### Requests -/

/-- IDENTIFY (R178), SET TIME (R19) and BAD_KIND (R169) at a taking (R168, R170). Which of the two timebase values the RESPONSE of
a SET TIME is stamped with is left free (log 8); the item widths of the identification are the model's (log 13). -/
def Obligations.IdentifyTimeAndBadKind : Prop :=
  ∀ (s : State) (r : Request) (rest : List Request),
    (Takes s 1 [] r rest →
      exec .identify s
        = .next (answered s r rest .ok
          [66, 17, 3, 5, 3, 3, 0, 8, 0, 0, 16, 0, 2, 64, 0, 0, 1, 0, 0, 1, 0, 0, 240, 0, 0, 4, 0] s.run.timebase))
    ∧ (∀ v, v ≤ 4294967295 → Takes s 2 (encU 4 v) r rest →
      exec .setTime s
        = .next (answered { s with run := { s.run with timebase := v } } r rest .ok (encU 4 s.run.timebase)
          (if Config.setTimeStampsNew then v else s.run.timebase)))
    ∧ (Ready s r rest → r.kind.toNat = 0 ∨ 26 < r.kind.toNat →
      exec .badKind s = .next (answered s r rest .badKind [] s.run.timebase))

/-- READ STATUS (R179, R180): the items of each section, one by one in the order of the rules that list them (R38, R56, R83, R105,
R125, R143, R164, R195), as they stand once the request has left the intake, and no other state changed. READ TABLE (R181, R104,
R57): the content of each form at an address in range, and no other state changed. The last clauses are the coding of numbers and
of named values (R196). The model's choices: some item widths (log 13), a list behind a count of its own (log 14), one presence
byte for items absent together (log 15), the code of the filter mode (log 34), the order of the marker counts (log 35), two
numbers for the holder's records (log 36), the order of the two list counts (log 37) and of the two fault counts (log 38). -/
def Obligations.ReadRequestsAnswer : Prop :=
  (∀ (s : State) (r : Request) (rest : List Request) (code : Nat), code ≤ 255 → Takes s 3 (encU 1 code) r rest →
      let o := s.odo
      let q := s.queue
      let m := s.mgmt
      let p := s.run.params
      let counts (ns : List Nat) : List Byte := ns.flatMap (encU 4)
      let opt (w : Nat) (x : Option Nat) : List Byte :=
        match x with
        | some n => 1 :: encU w n
        | none => 0 :: encU w 0
      let forHeads (f : HeadId → List Byte) : List Byte := f .h0 ++ f .h1 ++ f .h2
      let lockOf (x : Slot) : List Byte :=
        encB x.lock ++ encU 1 x.lost ++ opt 1 (x.record.map fun y => eventKindCode y.kind)
      let slot (x : Slot) : List Byte :=
        (match x.record with
          | some y => 1 :: faultRecordBytes y
          | none => List.replicate 23 0) ++ encB x.lock ++ encU 1 x.lost
      let wheel (w : WheelRecord) (scale : Nat) : List Byte :=
        encU 1 (wheelStatusCode w.status) ++ encU 4 scale ++ encU 4 w.silentTravel ++ encU 4 w.illegal
      let number (x : MarkerStatus) : Nat := (s.route.markers.filter fun k => decide (k.status = x)).length
      let summary : List (List Byte) :=
        [encU 1 (runStateCode s.run.runState), encU 4 s.run.runNumber, encU 4 s.run.timebase, encI 4 o.c, encI 4 o.h,
          encI 4 o.r, encB o.reversed, encU 1 (odoModeCode o.mode), encU 1 q.level, encU 1 q.floor, encB q.linkUp,
          encU 4 (occupancy q), encU 4 (dataOccupancy q), forHeads fun h => encU 1 (portStateCode (s.ports.get h).state),
          encB s.comparator.alertLine, lockOf s.faults.hard, lockOf s.faults.soft, encU 1 rest.length,
          encB m.staging.isSome]
      let run : List (List Byte) :=
        [encU 1 (runStateCode s.run.runState), encU 4 s.run.runNumber, opt 4 s.run.startTime, encB s.run.paramsSet,
          encU 1 (directionCode p.direction), encI 4 p.origin, encU 2 p.pitch, encU 1 p.closeLag, encU 2 p.closeTimeout,
          encU 2 p.defaultCentre, encU 4 p.guardDistance, encU 2 p.bogieCentres, encU 2 p.vehicleLength,
          encU 2 p.alertDepth, encU 2 p.alertHold, encU 1 p.highCode, encU 1 p.panicCode, encU 1 p.hysteresisCode,
          encU 2 p.headLossLimit, encU 2 p.linkLossLimit,
          counts [s.run.counters.profilesClosed, s.run.counters.profilesDropped, s.run.counters.pointsDropped,
            s.run.counters.eventsDropped, s.run.counters.intrusionsDropped, s.run.counters.markersMatched,
            s.run.counters.markersMissed, s.run.counters.markersUnknown],
          encU 4 s.run.timebase]
      let heads : List (List Byte) :=
        [forHeads fun h =>
          let x := s.ports.get h
          encU 1 (portStateCode x.state) ++ encU 1 x.classCode ++ encB x.enable ++ encU 2 x.silenceTimeout ++ encB x.warn
            ++ (match x.lastStatus with
              | some y => 1 :: (encU 1 (conditionCode y.condition) ++ encU 1 y.code)
              | none => [0, 0, 0])
            ++ opt 2 x.revolution ++ opt 2 x.expected
            ++ counts [x.crcBad, x.malformed, x.unsynced, x.gaps, x.jumps, x.accepted, x.passedOn, x.carrierLosses]]
      let corrector : List (List Byte) :=
        [forHeads fun h =>
          let x := s.correctors.get h
          counts [x.examined, x.accepted, x.noReturn, x.saturated, x.weak, x.occluded, x.invalid, x.centre, x.far]
            ++ encB x.calibration.defined]
      let odometry : List (List Byte) :=
        [encI 4 o.c, encI 4 o.h, encI 4 o.r, encI 4 o.u, encB o.reversed, encU 1 (odoModeCode o.mode),
          encU 1 (filterModeCode o.filterMode), encU 4 o.slipFilter, wheel o.a o.settings.scaleA,
          wheel o.b o.settings.scaleB, encU 1 o.agreement,
          (match o.lastMatched with
            | some k => 1 :: (encI 4 k.position ++ encU 2 k.label)
            | none => List.replicate 7 0),
          encU 4 o.cameraNext, encU 4 o.cameraFrames, counts [o.taken, o.debounced, o.ignored]]
      let route : List (List Byte) :=
        [encI 4 s.route.base, encU 2 (mappedCount s.route),
          encU 2 (s.route.entries.filter fun e => e.2.defined).length,
          encU 2 (s.route.envelopes.filter fun e => e.2.defined).length, encU 2 s.route.markers.length,
          encU 2 (number .unseen), encU 2 (number .matched), encU 2 (number .missed),
          (match guardLine s with
            | some g => 1 :: encI 4 g
            | none => List.replicate 5 0)]
      let assembly : List (List Byte) :=
        [encU 4 s.assembler.closedLine, encU 4 s.assembler.sequence, encU 2 s.assembler.contexts.length,
          encU 2 s.assembler.contexts.length,
          (s.assembler.contexts.flatMap fun c =>
            encU 4 c.station ++ encU 4 c.openTime ++ forHeads fun h => encU 2 (c.tallies.get h).slices),
          forHeads fun h => opt 4 (s.assembler.lastStation.get h),
          forHeads fun h =>
            let d := s.assembler.discards.get h
            counts [d.reversed, d.beforeStart, d.late]]
      let clearance : List (List Byte) :=
        [encB s.comparator.alertLine, encB s.comparator.hold.isSome,
          (match s.comparator.lastAlert with
            | some x => 1 :: (encU 4 x.sequence ++ encU 4 x.station)
            | none => List.replicate 9 0),
          counts [s.comparator.assessed, s.comparator.intruding, s.comparator.assertions]]
      let queue : List (List Byte) :=
        [encU 4 (occupancy q), encU 4 (dataOccupancy q), encU 4 (65536 - occupancy q), encU 2 q.control.length,
          encU 2 q.data.length, encU 1 (((sendingRecord q).map recordKind).getD 0), encB q.linkUp, encU 1 q.level,
          encU 1 q.floor, encU 2 (heldIntrusions q), encU 2 (q.holder.length - heldIntrusions q), encU 4 (holderClaim q),
          counts [q.counters.transmitted, q.counters.formsFull, q.counters.formsCompact, q.counters.formsSummary,
            q.counters.profileDropped, q.counters.pointsKept, q.counters.pointsDropped, q.counters.eventLost,
            q.counters.intrusionLost, q.counters.txAbandoned, q.counters.dataDiscarded]]
      let faults : List (List Byte) :=
        [slot s.faults.hard, slot s.faults.soft, encU 4 s.faults.hardReported, encU 4 s.faults.softReported,
          encB s.faults.headLoss.isSome, encB s.faults.linkLoss.isSome]
      let management : List (List Byte) :=
        [encU 1 rest.length, encU 2 rest.length, rest.flatMap fun x => [x.tag, x.kind],
          (match m.staging with
            | some st =>
              [1] ++ encU 1 (targetKindCode st.target) ++ encU 1 (targetId st.target) ++ encU 1 (partCount st.target)
                ++ encU 1 (st.parts.map fun e => 2 ^ e.1).sum
            | none => List.replicate 5 0),
          (match m.lastTaken with
            | some x => [1, x.tag, x.kind] ++ encU 1 (statusCode x.status)
            | none => List.replicate 4 0),
          counts [m.framesReceived, m.crcBad, m.malformed, m.dropped, m.taken, m.refused]]
      (∀ items,
        (code, items)
          ∈ [(0, summary), (1, run), (2, heads), (3, corrector), (4, odometry), (5, route), (6, assembly),
            (7, clearance), (8, queue), (9, faults), (10, management)] →
        exec .readStatus s = .next (answered s r rest .ok items.flatten s.run.timebase))
      ∧ (10 < code → exec .readStatus s = .next (answered s r rest .badValue [1] s.run.timebase)))
    ∧ (∀ (s : State) (r : Request) (rest : List Request),
      (∀ e ≤ 511, Takes s 4 (1 :: encU 2 e) r rest →
        exec .readTable s = .next (answered s r rest .ok (entryBytes (entryAt s.route e)) s.run.timebase))
      ∧ (∀ j ≤ 63, Takes s 4 (2 :: encU 1 j) r rest →
        exec .readTable s = .next (answered s r rest .ok (envelopeBytes (envelopeAt s.route j)) s.run.timebase))
      ∧ (∀ first count, first ≤ 4095 → 1 ≤ count → count ≤ 256 → first + count ≤ 4096 →
        Takes s 4 (3 :: (encU 2 first ++ encU 2 count)) r rest →
        exec .readTable s
          = .next (answered s r rest .ok
            (encI 4 s.route.base ++ encU 2 count
              ++ (List.range count).flatMap fun k => encU 2 ((cellAt s.route (first + k)).getD 65535))
            s.run.timebase))
      ∧ (∀ i m, i ≤ 65535 → s.route.markers[i]? = some m → Takes s 4 (4 :: encU 2 i) r rest →
        exec .readTable s
          = .next (answered s r rest .ok (markerBytes m ++ encU 2 s.route.markers.length) s.run.timebase))
      ∧ ∀ h, Takes s 4 (5 :: encU 1 (headNumber h)) r rest →
        exec .readTable s
          = .next (answered s r rest .ok
            (encU 1 (headNumber h) ++ encB (s.correctors.get h).calibration.defined
              ++ (s.correctors.get h).calibration.knots.flatMap (encI 2)
              ++ encU 1 (s.correctors.get h).calibration.intensityFloor)
            s.run.timebase))
    ∧ (∀ w n, n < 256 ^ w →
      (encU w n).length = w ∧ ∀ i < w, ((encU w n)[i]?).map BitVec.toNat = some (n / 256 ^ i % 256))
    ∧ (∀ (w : Nat) (x : Int), 1 ≤ w → -(256 ^ w / 2 : Int) ≤ x → x < 256 ^ w / 2 →
      encI w x = encU w (x % 256 ^ w).toNat)
    ∧ (encB false = [0] ∧ encB true = [1])
    ∧ ([RunState.unarmed, .armed, .running, .draining, .ended, .halted].map runStateCode = [0, 1, 2, 3, 4, 5]
      ∧ [PortState.down, .disabled, .waiting, .streaming, .silent, .faulted].map portStateCode = [0, 1, 2, 3, 4, 5]
      ∧ [Condition.ok, .warn, .fault].map conditionCode = [0, 1, 2]
      ∧ [OdoMode.normal, .slip, .single].map odoModeCode = [0, 1, 2]
      ∧ [WheelStatus.present, .lost].map wheelStatusCode = [0, 1]
      ∧ [MarkerStatus.unseen, .matched, .missed].map markerStatusCode = [0, 1, 2]
      ∧ [Direction.up, .down].map directionCode = [0, 1] ∧ [Zone.assess, .noAssess].map zoneCode = [0, 1])

/-- STAGE OPEN, STAGE PART, STAGE DISCARD and STAGE COMMIT carried out (R172 to R177): a commit installs the target whole (R58, R91)
and closes the record. Some response widths are the model's (log 13). -/
def Obligations.StagingRequests : Prop :=
  (∀ (s : State) (r : Request) (rest : List Request),
      let staged (x : Option Staging) : State := { s with mgmt := { s.mgmt with staging := x } }
      (∀ j ≤ 63, s.mgmt.staging = none → frozen s.run.runState = false →
        Takes s 5 (encU 1 1 ++ encU 1 j) r rest →
        exec .stageOpen s
          = .next (answered (staged (some ⟨.envelope j, []⟩)) r rest .ok [4] s.run.timebase))
      ∧ (∀ h, s.mgmt.staging = none → frozen s.run.runState = false →
        Takes s 5 (encU 1 2 ++ encU 1 (headNumber h)) r rest →
        exec .stageOpen s
          = .next (answered (staged (some ⟨.calibration h, []⟩)) r rest .ok [1] s.run.timebase))
      ∧ (∀ j k parts centre limits, k ≤ 3 → centre ≤ 65535 → limits.length = 32 → (∀ l ∈ limits, l ≤ 4294967295) →
        s.mgmt.staging = some ⟨.envelope j, parts⟩ →
        Takes s 6 (encU 1 k ++ (if k = 0 then encU 2 centre else []) ++ limits.flatMap (encU 4)) r rest →
        let st : Staging :=
          ⟨.envelope j, insertPart k (.limits (if k = 0 then some centre else none) limits) parts⟩
        exec .stagePart s = .next (answered (staged (some st)) r rest .ok (encU 1 (filledBits st)) s.run.timebase))
      ∧ (∀ h parts knots floor, knots.length = 17 → (∀ o ∈ knots, -32768 ≤ o ∧ o ≤ 32767) → floor ≤ 255 →
        s.mgmt.staging = some ⟨.calibration h, parts⟩ →
        Takes s 6 (encU 1 0 ++ knots.flatMap (encI 2) ++ encU 1 floor) r rest →
        let st : Staging := ⟨.calibration h, insertPart 0 (.knots knots floor) parts⟩
        exec .stagePart s = .next (answered (staged (some st)) r rest .ok (encU 1 (filledBits st)) s.run.timebase))
      ∧ ∀ st, s.mgmt.staging = some st → Takes s 8 [] r rest →
        exec .stageDiscard s
          = .next (answered (staged none) r rest .ok
            (encU 1 (targetKindCode st.target) ++ encU 1 (targetId st.target) ++ encU 1 (filledBits st)) s.run.timebase))
    ∧ (∀ (s : State) (r : Request) (rest : List Request), frozen s.run.runState = false → Takes s 7 [] r rest →
      (∀ j centre l0 l1 l2 l3,
        s.mgmt.staging
          = some ⟨.envelope j, [(0, .limits (some centre) l0), (1, .limits none l1), (2, .limits none l2),
              (3, .limits none l3)]⟩ →
        centre ≤ 60000 → (∀ l ∈ l0 ++ l1 ++ l2 ++ l3, l ≤ 200000) →
        exec .stageCommit s
          = .next (answered
            { s with
              route := { s.route with
                envelopes := tableSet {} s.route.envelopes j ⟨true, centre, l0 ++ (l1 ++ (l2 ++ l3))⟩ }
              mgmt := { s.mgmt with staging := none } }
            r rest .ok (encU 1 1 ++ encU 1 j) s.run.timebase))
      ∧ ∀ h knots floor, s.mgmt.staging = some ⟨.calibration h, [(0, .knots knots floor)]⟩ →
        (∀ o ∈ knots, -2000 ≤ o ∧ o ≤ 2000) →
        exec .stageCommit s
          = .next (answered
            { s with
              correctors := s.correctors.set h { s.correctors.get h with calibration := ⟨true, knots, floor⟩ }
              mgmt := { s.mgmt with staging := none } }
            r rest .ok (encU 1 2 ++ encU 1 (headNumber h)) s.run.timebase))

/-- CONFIGURE HEAD carried out (R35, R36): the seven fields installed, and the port state moved by the table. SET MASK, SET ODOMETRY
and SET RUN PARAMETERS carried out (R59, R81, R6): what was sent is installed whole. -/
def Obligations.SettingsInstalled : Prop :=
  (∀ (s : State) (r : Request) (rest : List Request) (p : HeadId) (classCode : Nat) (enable : Bool) (yh zh : Int)
      (phi timeout : Nat),
      frozen s.run.runState = false → classCode ≤ 6 → (classCode = 0 → enable = false) → -20000 ≤ yh → yh ≤ 20000 →
      -20000 ≤ zh → zh ≤ 20000 → phi ≤ 65535 → 5 ≤ timeout → timeout ≤ 500 →
      Takes s 9 (configurePayload p classCode enable yh zh phi timeout) r rest →
      let before := s.ports.get p
      let installed : Port :=
        { before with
          classCode := classCode, enable := enable, yh := yh, zh := zh, phi := phi, silenceTimeout := timeout }
      let idle (state : PortState) : Port :=
        { installed with state := state, expected := none, revolution := none, gapReported := false, silence := none }
      let after : Port :=
        if before.state = .down then installed
        else if before.state = .disabled then if enable then idle .waiting else installed
        else if enable = false then { idle .disabled with warn := false, lastStatus := none }
        else if before.state = .streaming then
          if classCode = before.classCode then { installed with silence := some (1000 * timeout) } else idle .waiting
        else installed
      exec .configureHead s
        = .next (answered { s with ports := s.ports.set p after } r rest .ok (encU 1 (portStateCode after.state))
          s.run.timebase))
    ∧ (∀ (s : State) (r : Request) (rest : List Request),
      (∀ p (mask : BitVec 64), frozen s.run.runState = false →
        Takes s 10 (encU 1 (headNumber p) ++ leBytes 8 mask.toNat) r rest →
        exec .setMask s
          = .next (answered
            { s with correctors := s.correctors.set p { s.correctors.get p with mask := mask } } r rest .ok
            (leBytes 8 (s.correctors.get p).mask.toNat) s.run.timebase))
      ∧ (∀ x, frozen s.run.runState = false → settingsInRange x → x.scaleA ≠ 0 → x.scaleB ≠ 0 →
        Takes s 11 (odometryPayload x) r rest →
        exec .setOdometry s
          = .next (answered
            { s with odo := { s.odo with settings := x, interval := some (1000 * x.interval) } } r rest .ok []
            s.run.timebase))
      ∧ ∀ p, s.run.runState = .unarmed → paramsInRange p → Takes s 20 (paramBytes p) r rest →
        exec .setRunParameters s
          = .next (answered { s with run := { s.run with params := p, paramsSet := true } } r rest .ok [] s.run.timebase))

/-- SET ROUTE BASE, WRITE and CLEAR ROUTE ENTRY and ERASE ENVELOPE carried out (R86, R88, R89, R92). -/
def Obligations.RouteTablesWritten : Prop :=
  ∀ (s : State) (r : Request) (rest : List Request),
    (∀ b : Int, s.run.runState = .unarmed → tableLaw s.route → -2000000000 ≤ b → b ≤ 2000000000 →
      Takes s 12 (encI 4 b) r rest →
      ∃ rm,
        exec .setRouteBase s
            = .next (answered { s with route := rm } r rest .ok (encU 2 (mappedCount s.route)) s.run.timebase)
          ∧ rm.base = b ∧ (∀ i, cellAt rm i = none) ∧ mappedCount rm = 0
          ∧ (∀ e, entryAt rm e = { entryAt s.route e with references := 0 })
          ∧ rm.envelopes = s.route.envelopes ∧ rm.markers = s.route.markers)
    ∧ (∀ e j radius margin zone alertEnable, e ≤ 511 → j ≤ 63 →
      (radius = 0 ∨ (20 ≤ radius.natAbs ∧ radius.natAbs ≤ 20000)) → margin ≤ 5000 →
      (entryAt s.route e).references = 0 → (envelopeAt s.route j).defined = true →
      Takes s 13 (entryPayload e j radius margin zone alertEnable) r rest →
      exec .writeRouteEntry s
        = .next (answered
          { s with
            route := { s.route with
              entries := tableSet {} s.route.entries e ⟨true, j, radius, margin, zone, alertEnable, 0⟩ } }
          r rest .ok [] s.run.timebase))
    ∧ (∀ e, e ≤ 511 → (entryAt s.route e).references = 0 → Takes s 14 (encU 2 e) r rest →
      exec .clearRouteEntry s
        = .next (answered
          (if (entryAt s.route e).defined then
            { s with route := { s.route with entries := tableSet {} s.route.entries e {} } }
          else s)
          r rest .ok [] s.run.timebase))
    ∧ ∀ j, j ≤ 63 → frozen s.run.runState = false →
      (∀ x ∈ s.route.entries, ¬(x.2.defined = true ∧ x.2.envelope = j)) → Takes s 15 (encU 1 j) r rest →
      exec .eraseEnvelope s
        = .next (answered
          (if (envelopeAt s.route j).defined then
            { s with route := { s.route with envelopes := tableSet {} s.route.envelopes j {} } }
          else s)
          r rest .ok [] s.run.timebase)

/-- The canonical tables of the Route Map and of a context's sectors: a value written reads back, every other index reads as
before, and the form is kept. The form itself is the model's (log 19). -/
def Obligations.TablesReadBack : Prop :=
  ∀ (α : Type) [DecidableEq α] (d x : α) (t : List (Nat × α)) (i j : Nat), tableWf d t →
    tableWf d (tableSet d t i x) ∧ tableGet d (tableSet d t i x) j = if j = i then x else tableGet d t j

/-- MAP CELLS and UNMAP CELLS carried out (R93 to R95): the span of cells and nothing else of the directory; a span is taken in a
run only beyond the guard line; entries keep all but their reference counts. -/
def Obligations.CellsMapped : Prop :=
  ∀ (s : State) (r : Request) (rest : List Request) (first count : Nat), tableLaw s.route → 1 ≤ count → count ≤ 64 →
    first + count ≤ 4096 →
    (∀ g, guardLine s = some g → ∀ k < count, cellBeyond s.run.params.direction s.route.base g (first + k) = true) →
    (∀ indices, indices.length = count →
      (∀ e ∈ indices, e ≤ 511 ∧ (entryAt s.route e).defined = true) → Takes s 16 (mapPayload first indices) r rest →
      ∃ rm,
        exec .mapCells s
            = .next (answered { s with route := rm } r rest .ok (encU 2 (mappedCount rm)) s.run.timebase)
          ∧ (∀ i, cellAt rm i = if first ≤ i ∧ i < first + count then indices[i - first]? else cellAt s.route i)
          ∧ rm.base = s.route.base ∧ rm.envelopes = s.route.envelopes ∧ rm.markers = s.route.markers
          ∧ ∀ e, { entryAt rm e with references := 0 } = { entryAt s.route e with references := 0 })
    ∧ (Takes s 17 (encU 2 first ++ encU 1 count) r rest →
      ∃ rm,
        exec .unmapCells s
            = .next (answered { s with route := rm } r rest .ok (encU 2 (mappedCount rm)) s.run.timebase)
          ∧ (∀ i, cellAt rm i = if first ≤ i ∧ i < first + count then none else cellAt s.route i)
          ∧ rm.base = s.route.base ∧ rm.envelopes = s.route.envelopes ∧ rm.markers = s.route.markers
          ∧ ∀ e, { entryAt rm e with references := 0 } = { entryAt s.route e with references := 0 })

/-- ADD MARKER and REMOVE MARKER carried out (R97 to R99): the marker joins in its place by position, or leaves. -/
def Obligations.MarkersAddedAndRemoved : Prop :=
  ∀ (s : State) (r : Request) (rest : List Request) (position : Int), markerLaw s.route →
    -2147483648 ≤ position → position ≤ 2147483647 →
    (∀ g, guardLine s = some g → markerBeyond s.run.params.direction g position = true) →
    let below := s.route.markers.filter fun m => decide (m.position < position)
    let above := s.route.markers.filter fun m => decide (position < m.position)
    (∀ label, label ≤ 65535 → s.route.markers.length < 256 →
      (∀ m ∈ s.route.markers, 10000 ≤ (m.position - position).natAbs) →
      Takes s 18 (encI 4 position ++ encU 4 label) r rest →
      exec .addMarker s
        = .next (answered
          { s with route := { s.route with markers := below ++ ⟨position, label, .unseen⟩ :: above } }
          r rest .ok (encU 2 below.length ++ encU 2 (s.route.markers.length + 1)) s.run.timebase))
    ∧ (Takes s 19 (encI 4 position) r rest →
      ((∀ m ∈ s.route.markers, m.position ≠ position) →
        exec .removeMarker s
          = .next (answered s r rest .ok (0 :: encU 2 s.route.markers.length) s.run.timebase))
      ∧ ∀ m ∈ s.route.markers, m.position = position →
        exec .removeMarker s
          = .next (answered
            { s with route := { s.route with markers := below ++ above } }
            r rest .ok
            (1 :: (encU 2 m.label ++ encU 1 (markerStatusCode m.status) ++ encU 2 (s.route.markers.length - 1)))
            s.run.timebase))

/-- ARM and START carried out (R8 to R10, R82, R107): the checks met, every block takes its run preparation; START makes the run
RUNNING and starts the loss timers that apply. -/
def Obligations.ArmAndStart : Prop :=
  ∀ (s : State) (r : Request) (rest : List Request),
    (s.run.runState = .unarmed → (∃ p, (s.ports.get p).enable = true) →
      (∀ p, (s.ports.get p).enable = true → (s.correctors.get p).calibration.defined = true) →
      s.odo.settings.scaleA ≠ 0 → s.odo.settings.scaleB ≠ 0 → s.run.paramsSet = true → s.route.cells ≠ [] →
      Takes s 21 [] r rest →
      exec .arm s
        = .next (answered
          { s with
            run :=
              { s.run with
                runState := .armed, runNumber := (s.run.runNumber + 1) % 4294967296, startTime := none
                counters := ⟨0, 0, 0, 0, 0, 0, 0, 0⟩ }
            odo :=
              { s.odo with
                a := { s.odo.a with remainder := 0, status := .present, silentTravel := 0 }
                b := { s.odo.b with remainder := 0, status := .present, silentTravel := 0 }
                agreement := 0, slipFilter := 0, filterMode := .normal, mode := .normal
                c := s.run.params.origin, h := s.run.params.origin, r := 0, u := 0, reversed := false
                debounce := none, lastMatched := none, cameraNext := 1, cameraFrames := 0 }
            route := { s.route with markers := s.route.markers.map fun m => { m with status := .unseen } }
            assembler :=
              { s.assembler with contexts := [], closedLine := 0, sequence := 0, lastStation := ⟨none, none, none⟩ }
            faults := { s.faults with headLoss := none, linkLoss := none } }
          r rest .ok [] s.run.timebase))
    ∧ (s.run.runState = .armed → s.faults.headLoss = none → s.faults.linkLoss = none → Takes s 22 [] r rest →
      exec .start s
        = .next (answered
          { s with
            run := { s.run with runState := .running, startTime := some s.run.timebase }
            faults :=
              { s.faults with
                headLoss :=
                  if (s.ports.h0.state = .streaming ∨ s.ports.h1.state = .streaming) ∨ s.ports.h2.state = .streaming then
                    none
                  else some (1000 * s.run.params.headLossLimit)
                linkLoss := if s.queue.linkUp then none else some (1000 * s.run.params.linkLossLimit) } }
          r rest .ok [] s.run.timebase))

/-- STOP carried out (R11, R12, R122, R192): the run is DRAINING with the head-loss timer stopped, every open context closes DRAINED
in station order and takes its sequence number, the RUN_END record with reason STOPPED is offered after them and reports them;
then an INTRUSION record lost in the drain, and only that, puts the run in HALTED, with a RUN_END of reason HALTED behind the
other (log 32). With no context open and the queue at ease only the RUN_END record is new. -/
def Obligations.StopDrains : Prop :=
  ∀ (s : State) (r : Request) (rest : List Request), s.run.runState = .running → Takes s 23 [] r rest →
    (let begun : State :=
        { s with
          run := { s.run with runState := .draining }
          faults := { s.faults with headLoss := none }
          queue := { s.queue with responseClaim := 1040 }
          mgmt := { s.mgmt with intake := rest } }
      let d := closures (fun _ => some .drained) s.assembler.contexts begun
      let e := runEndNow .stopped none d.1
      let u := if d.2 then haltedBy .intrusionLost (offerRunEnd e d.1) else offerRunEnd e d.1
      exec .stop s = .next (answered u r rest .ok [] s.run.timebase)
        ∧ Frame [.run, .odo, .assembler, .comparator, .queue, .mgmt, .faults] s u
        ∧ u.mgmt = { s.mgmt with intake := rest }
        ∧ u.assembler.contexts = [] ∧ u.faults.headLoss = none
        ∧ (e.reason = .stopped ∧ e.runNumber = s.run.runNumber ∧ e.endTime = s.run.timebase
          ∧ e.startTime = s.run.startTime ∧ e.finalC = s.odo.c ∧ e.finalH = s.odo.h
          ∧ (Record.runEnd e ∈ u.queue.control ∨ Record.runEnd e ∈ u.queue.holder))
        ∧ (∀ last, s.assembler.contexts.getLast? = some last →
          u.assembler.closedLine = last.station + 1
            ∧ u.assembler.sequence = (s.assembler.sequence + s.assembler.contexts.length) % 4294967296
            ∧ u.comparator.assessed = min 4294967295 (s.comparator.assessed + s.assembler.contexts.length)
            ∧ u.run.counters.profilesClosed
              = min 4294967295 (s.run.counters.profilesClosed + s.assembler.contexts.length)
            ∧ e.counters.profilesClosed = u.run.counters.profilesClosed
            ∧ e.lastSequence
              = some ((s.assembler.sequence + s.assembler.contexts.length + 4294967295) % 4294967296))
        ∧ (d.2 = false → u.run.runState = .draining ∧ u.odo = s.odo ∧ u.faults.linkLoss = s.faults.linkLoss
          ∧ u.faults.hard = s.faults.hard ∧ u.run.counters.intrusionsDropped = s.run.counters.intrusionsDropped)
        ∧ (d.2 = true → u.run.runState = .halted ∧ u.odo = { s.odo with h := s.odo.c, r := 0, reversed := false }
          ∧ u.faults.linkLoss = none ∧ u.faults.hard.lock = true
          ∧ (s.run.counters.intrusionsDropped < 4294967295 →
            s.run.counters.intrusionsDropped < u.run.counters.intrusionsDropped)
          ∧ ∃ e', e'.reason = .halted ∧ e'.haltFault = some .intrusionLost ∧ e'.counters.profilesClosed = e.counters.profilesClosed
            ∧ e'.lastSequence = e.lastSequence
            ∧ (Record.runEnd e' ∈ u.queue.control ∨ Record.runEnd e' ∈ u.queue.holder)))
    ∧ (s.assembler.contexts = [] → s.queue.holder = [] → occupancy s.queue + 1104 ≤ 65536 →
      exec .stop s
        = .next (answered
          { s with
            run := { s.run with runState := .draining }
            faults := { s.faults with headLoss := none }
            queue := { s.queue with
              control := s.queue.control
                ++ [.runEnd
                  { runNumber := s.run.runNumber, reason := .stopped, haltFault := none, startTime := s.run.startTime,
                    endTime := s.run.timebase
                    lastSequence :=
                      if s.assembler.sequence = 0 ∧ s.run.counters.profilesClosed = 0 then none
                      else some ((s.assembler.sequence + 4294967295) % 4294967296)
                    counters := s.run.counters, finalC := s.odo.c, finalH := s.odo.h }] } }
          r rest .ok [] s.run.timebase))

/-- RESET RUN (R15, R124, R142, R162): no effect in UNARMED; else UNARMED, contexts discarded, the alert released, the queue reset and
the run end handed over from ARMED, RUNNING and DRAINING. -/
def Obligations.ResetRunReleases : Prop :=
  ∀ (s : State) (r : Request) (rest : List Request), Takes s 24 [] r rest →
    (s.run.runState = .unarmed → exec .resetRun s = .next (answered s r rest .ok [] s.run.timebase))
    ∧ (s.run.runState ≠ .unarmed →
      ∃ q,
        exec .resetRun s
            = .next (answered
              { s with
                run := { s.run with runState := .unarmed }
                assembler := { s.assembler with contexts := [] }
                comparator := { s.comparator with alertLine := false, hold := none, lastAlert := none }
                odo :=
                  if s.run.runState = .armed ∨ s.run.runState = .running ∨ s.run.runState = .draining then
                    { s.odo with h := s.odo.c, r := 0, reversed := false }
                  else s.odo
                faults := { s.faults with headLoss := none, linkLoss := none }
                queue := q }
              r rest .ok [] s.run.timebase)
          ∧ q.data = (if s.queue.sending = some .data then s.queue.data.take 1 else [])
          ∧ q.level = s.queue.floor ∧ q.floor = s.queue.floor ∧ q.sending = s.queue.sending
          ∧ q.linkUp = s.queue.linkUp ∧ q.keep = s.queue.keep
          ∧ q.counters
            = { s.queue.counters with
              dataDiscarded :=
                min 4294967295
                  (s.queue.counters.dataDiscarded
                    + (s.queue.data.length - if s.queue.sending = some .data then min 1 s.queue.data.length else 0)) }
          ∧ q.control ++ q.holder = s.queue.control ++ s.queue.holder)

/-- SET LEVEL FLOOR and ACK FAULT carried out (R161, R194). -/
def Obligations.FloorAndAcknowledge : Prop :=
  ∀ (s : State) (r : Request) (rest : List Request),
    (∀ f ≤ 5, Takes s 25 (encU 1 f) r rest →
      exec .setLevelFloor s
        = .next (answered
          { s with queue := { s.queue with floor := f, level := if s.queue.level < f then f else s.queue.level } }
          r rest .ok (encU 1 (if s.queue.level < f then f else s.queue.level)) s.run.timebase))
    ∧ (Takes s 26 [1] r rest →
      exec .ackFault s
        = .next (answered
          { s with faults := { s.faults with hard := { s.faults.hard with lock := false, lost := 0 } } } r rest .ok
          (encB s.faults.hard.lock ++ encU 1 s.faults.hard.lost ++ encKind (s.faults.hard.record.map FaultRecord.kind))
          s.run.timebase))
    ∧ (Takes s 26 [2] r rest →
      exec .ackFault s
        = .next (answered
          { s with faults := { s.faults with soft := { s.faults.soft with lock := false, lost := 0 } } } r rest .ok
          (encB s.faults.soft.lock ++ encU 1 s.faults.soft.lost ++ encKind (s.faults.soft.record.map FaultRecord.kind))
          s.run.timebase))

/-- A refused request changes nothing in the part but the Management Unit's own counts and last request taken, and its RESPONSE
record (R169, R170). -/
def Obligations.RefusedRequestChangesNothing : Prop :=
  ∀ (c : Instr) (s t : State) (r : Request) (rest : List Request) (status : Status),
    Ready s r rest → takesKind c r.kind.toNat = true → exec c s = .next t →
    t.mgmt.lastTaken = some ⟨r.tag, r.kind, status⟩ → status ≠ .ok →
    ∃ payload, t = answered s r rest status payload s.run.timebase

/-- The first rows of the requests' tables: a payload of the wrong length is MALFORMED (R169, R198), and a request that writes
frozen state is FROZEN, or STATE where its rule says so, whatever it carries (R2, R6, R16, R35, R59, R81, R86, R92). -/
def Obligations.FirstRowsRefuse : Prop :=
  ∀ (s : State) (r : Request) (rest : List Request) (c : Instr) (code n : Nat), Ready s r rest →
    r.kind = BitVec.ofNat 8 code →
    ((c, code, n)
        ∈ [(.identify, 1, 0), (.setTime, 2, 4), (.readStatus, 3, 1), (.stageOpen, 5, 2), (.stageCommit, 7, 0),
          (.stageDiscard, 8, 0), (.configureHead, 9, 11), (.setMask, 10, 9), (.setOdometry, 11, 33),
          (.setRouteBase, 12, 4), (.writeRouteEntry, 13, 9), (.clearRouteEntry, 14, 2), (.eraseEnvelope, 15, 1),
          (.unmapCells, 17, 3), (.addMarker, 18, 8), (.removeMarker, 19, 4), (.setRunParameters, 20, 31), (.arm, 21, 0),
          (.start, 22, 0), (.stop, 23, 0), (.resetRun, 24, 0), (.setLevelFloor, 25, 1), (.ackFault, 26, 1)] →
      r.payload.length ≠ n → exec c s = .next (answered s r rest .malformed [] s.run.timebase))
    ∧ ((c, code, n) ∈ [(.configureHead, 9, 11), (.setMask, 10, 9), (.setOdometry, 11, 33), (.eraseEnvelope, 15, 1)] →
      r.payload.length = n → s.run.runState = .armed ∨ s.run.runState = .running ∨ s.run.runState = .draining →
      exec c s = .next (answered s r rest .frozen [] s.run.timebase))
    ∧ ((c, code, n) ∈ [(.setRouteBase, 12, 4), (.setRunParameters, 20, 31), (.arm, 21, 0)] → r.payload.length = n →
      s.run.runState ≠ .unarmed → exec c s = .next (answered s r rest .state [] s.run.timebase))
    ∧ ((c, code, n) = (.start, 22, 0) → r.payload.length = n → s.run.runState ≠ .armed →
      exec c s = .next (answered s r rest .state [] s.run.timebase))
    ∧ ((c, code, n) = (.stop, 23, 0) → r.payload.length = n → s.run.runState ≠ .running →
      exec c s = .next (answered s r rest .state [] s.run.timebase))

/-! ### Laws that hold at reset and are kept by every step -/

/-- The laws below hold of the machine after reset. -/
def Obligations.ResetMeetsTheLaws : Prop :=
  let s := State.reset
  levelLaw s.queue ∧ capacityLaw s.queue ∧ responseBounds s ∧ transmitterLaw s.queue ∧ holderLaw s.queue
    ∧ intakeLaw s.mgmt ∧ contextLaw s ∧ accumulatorLaw s.assembler ∧ closureLaw s ∧ chainageLaw s ∧ correctionLaw s
    ∧ lossTimerLaw s ∧ alertLaw s.comparator ∧ wheelLaw s.odo ∧ cameraLaw s.odo ∧ (∀ p, portLaw (s.ports.get p))
    ∧ (∀ p, correctorLaw (s.correctors.get p)) ∧ tableLaw s.route ∧ referenceLaw s.route ∧ integrityLaw s.route
    ∧ markerLaw s.route ∧ libraryLaw s.route ∧ stagingLaw s.mgmt ∧ stagedTargetLaw s.mgmt
    ∧ paramsInRange s.run.params ∧ settingsInRange s.odo.settings

/-- The law of the level (R152): every step keeps the degrade level between the level floor and 5. -/
def Obligations.LevelLawKept : Prop :=
  ∀ s t : State, levelLaw s.queue → step s = .next t → levelLaw t.queue

/-- The law of capacity (R146): every step keeps the occupancy within 65,536 and the data occupancy within 61,440. With it go the
bounds that keep every response within its claim (R108, R147, R166): at most 8 contexts, 4 waiting requests and 17 knots, the last
kept by the shape of the staged parts (R172). -/
def Obligations.CapacityLawKept : Prop :=
  ∀ s t : State, capacityLaw s.queue → responseBounds s → stagingLaw s.mgmt → step s = .next t →
    capacityLaw t.queue ∧ responseBounds t ∧ stagingLaw t.mgmt

/-- The transmitter and the pending holder between events (R149, R151, R158, R160): never idle on an UP link with a record queued; at
most two INTRUSION records wait, and the oldest waits only while it does not fit. -/
def Obligations.TransmitterAndHolderKept : Prop :=
  ∀ s t : State, transmitterLaw s.queue → holderLaw s.queue → s.queue.responseClaim = 0 → step s = .next t →
    transmitterLaw t.queue ∧ holderLaw t.queue ∧ t.queue.responseClaim = 0

/-- The law of the set (R108), with its emptiness outside RUNNING (R122 to R124), the law of the accumulator (R109) and the law of
closure (R116). -/
def Obligations.AssemblerLawsKept : Prop :=
  ∀ s t : State, contextLaw s → accumulatorLaw s.assembler → closureLaw s → step s = .next t →
    contextLaw t ∧ accumulatorLaw t.assembler ∧ closureLaw t

/-- The law of chainage (R71) and the law of the correction (R69). -/
def Obligations.ChainageLawsKept : Prop :=
  ∀ s t : State, chainageLaw s → correctionLaw s → step s = .next t → chainageLaw t ∧ correctionLaw t

/-- The head-loss timer runs exactly while no port streams in RUNNING (R188), and the link-loss timer exactly while the link is DOWN
in RUNNING and DRAINING (R189). -/
def Obligations.LossTimersKept : Prop :=
  ∀ s t : State, lossTimerLaw s → step s = .next t → lossTimerLaw t

/-- The alert line is ASSERTED exactly while its hold timer runs (R140, R141); both wheels are never LOST together, and at most one has
travelled in silence (R64 to R66); the camera line is idle between pulses (R77), none of which lasts beyond its event (log 22);
the intake holds at most 4 requests (R166). -/
def Obligations.AlertWheelIntakeKept : Prop :=
  ∀ s t : State, alertLaw s.comparator → wheelLaw s.odo → cameraLaw s.odo → intakeLaw s.mgmt → step s = .next t →
    alertLaw t.comparator ∧ wheelLaw t.odo ∧ cameraLaw t.odo ∧ intakeLaw t.mgmt

/-- A port's record follows its state (R23, R35, R36), and a head's samples examined are those accepted and those discarded (R41). -/
def Obligations.PortAndCorrectorKept : Prop :=
  ∀ s t : State, (∀ p, portLaw (s.ports.get p)) → (∀ p, correctorLaw (s.correctors.get p)) → step s = .next t →
    (∀ p, portLaw (t.ports.get p)) ∧ ∀ p, correctorLaw (t.correctors.get p)

/-- The law of reference and the law of integrity (R87), over tables in their canonical form (log 19); an open staging record loads an
envelope that exists (R172). -/
def Obligations.RouteLawsKept : Prop :=
  ∀ s t : State, tableLaw s.route → referenceLaw s.route → integrityLaw s.route → stagedTargetLaw s.mgmt →
    step s = .next t →
    tableLaw t.route ∧ referenceLaw t.route ∧ integrityLaw t.route ∧ stagedTargetLaw t.mgmt

/-- The law of the marker list (R97), the ranges of the envelope library (R90), and those of the run parameters and of the odometry
settings (R5, R7, R80), over tables in their canonical form (log 19) and a staging record for a target that exists (R172). -/
def Obligations.TablesStayInRange : Prop :=
  ∀ s t : State, markerLaw s.route → libraryLaw s.route → tableLaw s.route → stagingLaw s.mgmt →
    stagedTargetLaw s.mgmt → paramsInRange s.run.params → settingsInRange s.odo.settings → step s = .next t →
    markerLaw t.route ∧ libraryLaw t.route ∧ tableLaw t.route ∧ stagingLaw t.mgmt ∧ stagedTargetLaw t.mgmt
      ∧ paramsInRange t.run.params ∧ settingsInRange t.odo.settings

/-- The law of the freeze (R16) and the law of the slot (R183), over every step that takes neither power nor the reset input. -/
def Obligations.FreezeAndSlotLaws : Prop :=
  ∀ (c : Instr) (rest : List Instr) (s t : State), s.pending = c :: rest → (∀ lines, c ≠ .powerOn lines) →
    c ≠ .resetInput → step s = .next t →
    (frozen s.run.runState = true → freezeLaw s t) ∧ slotLaw s.faults.hard t.faults.hard
      ∧ slotLaw s.faults.soft t.faults.soft
end

