-- ==== Sys2Proof/Laws/State.lean ====
section
/-! SUPPORT. One lemma for each block of the state after the replacement of each, true by `rfl`, so that no proof unfolds a
record update. -/

namespace Sys2Proof.Machine

/-! ### withRun -/

@[simp] theorem State.withRun_run (s : State) (x : RunControl) : (s.withRun x).run = x := rfl
@[simp] theorem State.withRun_ports (s : State) (x : RunControl) : (s.withRun x).ports = s.ports := rfl
@[simp] theorem State.withRun_correctors (s : State) (x : RunControl) : (s.withRun x).correctors = s.correctors := rfl
@[simp] theorem State.withRun_odo (s : State) (x : RunControl) : (s.withRun x).odo = s.odo := rfl
@[simp] theorem State.withRun_route (s : State) (x : RunControl) : (s.withRun x).route = s.route := rfl
@[simp] theorem State.withRun_assembler (s : State) (x : RunControl) : (s.withRun x).assembler = s.assembler := rfl
@[simp] theorem State.withRun_comparator (s : State) (x : RunControl) : (s.withRun x).comparator = s.comparator := rfl
@[simp] theorem State.withRun_queue (s : State) (x : RunControl) : (s.withRun x).queue = s.queue := rfl
@[simp] theorem State.withRun_mgmt (s : State) (x : RunControl) : (s.withRun x).mgmt = s.mgmt := rfl
@[simp] theorem State.withRun_faults (s : State) (x : RunControl) : (s.withRun x).faults = s.faults := rfl
@[simp] theorem State.withRun_choices (s : State) (x : RunControl) : (s.withRun x).choices = s.choices := rfl
@[simp] theorem State.withRun_pending (s : State) (x : RunControl) : (s.withRun x).pending = s.pending := rfl
@[simp] theorem State.withRun_withRun (s : State) (x y : RunControl) : (s.withRun x).withRun y = s.withRun y := rfl

/-! ### withPorts -/

@[simp] theorem State.withPorts_run (s : State) (x : PerHead Port) : (s.withPorts x).run = s.run := rfl
@[simp] theorem State.withPorts_ports (s : State) (x : PerHead Port) : (s.withPorts x).ports = x := rfl
@[simp] theorem State.withPorts_correctors (s : State) (x : PerHead Port) : (s.withPorts x).correctors = s.correctors := rfl
@[simp] theorem State.withPorts_odo (s : State) (x : PerHead Port) : (s.withPorts x).odo = s.odo := rfl
@[simp] theorem State.withPorts_route (s : State) (x : PerHead Port) : (s.withPorts x).route = s.route := rfl
@[simp] theorem State.withPorts_assembler (s : State) (x : PerHead Port) : (s.withPorts x).assembler = s.assembler := rfl
@[simp] theorem State.withPorts_comparator (s : State) (x : PerHead Port) : (s.withPorts x).comparator = s.comparator := rfl
@[simp] theorem State.withPorts_queue (s : State) (x : PerHead Port) : (s.withPorts x).queue = s.queue := rfl
@[simp] theorem State.withPorts_mgmt (s : State) (x : PerHead Port) : (s.withPorts x).mgmt = s.mgmt := rfl
@[simp] theorem State.withPorts_faults (s : State) (x : PerHead Port) : (s.withPorts x).faults = s.faults := rfl
@[simp] theorem State.withPorts_choices (s : State) (x : PerHead Port) : (s.withPorts x).choices = s.choices := rfl
@[simp] theorem State.withPorts_pending (s : State) (x : PerHead Port) : (s.withPorts x).pending = s.pending := rfl
@[simp] theorem State.withPorts_withPorts (s : State) (x y : PerHead Port) : (s.withPorts x).withPorts y = s.withPorts y := rfl

/-! ### withCorrectors -/

@[simp] theorem State.withCorrectors_run (s : State) (x : PerHead Corrector) : (s.withCorrectors x).run = s.run := rfl
@[simp] theorem State.withCorrectors_ports (s : State) (x : PerHead Corrector) : (s.withCorrectors x).ports = s.ports := rfl
@[simp] theorem State.withCorrectors_correctors (s : State) (x : PerHead Corrector) : (s.withCorrectors x).correctors = x := rfl
@[simp] theorem State.withCorrectors_odo (s : State) (x : PerHead Corrector) : (s.withCorrectors x).odo = s.odo := rfl
@[simp] theorem State.withCorrectors_route (s : State) (x : PerHead Corrector) : (s.withCorrectors x).route = s.route := rfl
@[simp] theorem State.withCorrectors_assembler (s : State) (x : PerHead Corrector) : (s.withCorrectors x).assembler = s.assembler := rfl
@[simp] theorem State.withCorrectors_comparator (s : State) (x : PerHead Corrector) : (s.withCorrectors x).comparator = s.comparator := rfl
@[simp] theorem State.withCorrectors_queue (s : State) (x : PerHead Corrector) : (s.withCorrectors x).queue = s.queue := rfl
@[simp] theorem State.withCorrectors_mgmt (s : State) (x : PerHead Corrector) : (s.withCorrectors x).mgmt = s.mgmt := rfl
@[simp] theorem State.withCorrectors_faults (s : State) (x : PerHead Corrector) : (s.withCorrectors x).faults = s.faults := rfl
@[simp] theorem State.withCorrectors_choices (s : State) (x : PerHead Corrector) : (s.withCorrectors x).choices = s.choices := rfl
@[simp] theorem State.withCorrectors_pending (s : State) (x : PerHead Corrector) : (s.withCorrectors x).pending = s.pending := rfl
@[simp] theorem State.withCorrectors_withCorrectors (s : State) (x y : PerHead Corrector) : (s.withCorrectors x).withCorrectors y = s.withCorrectors y := rfl

/-! ### withOdo -/

@[simp] theorem State.withOdo_run (s : State) (x : Odometry) : (s.withOdo x).run = s.run := rfl
@[simp] theorem State.withOdo_ports (s : State) (x : Odometry) : (s.withOdo x).ports = s.ports := rfl
@[simp] theorem State.withOdo_correctors (s : State) (x : Odometry) : (s.withOdo x).correctors = s.correctors := rfl
@[simp] theorem State.withOdo_odo (s : State) (x : Odometry) : (s.withOdo x).odo = x := rfl
@[simp] theorem State.withOdo_route (s : State) (x : Odometry) : (s.withOdo x).route = s.route := rfl
@[simp] theorem State.withOdo_assembler (s : State) (x : Odometry) : (s.withOdo x).assembler = s.assembler := rfl
@[simp] theorem State.withOdo_comparator (s : State) (x : Odometry) : (s.withOdo x).comparator = s.comparator := rfl
@[simp] theorem State.withOdo_queue (s : State) (x : Odometry) : (s.withOdo x).queue = s.queue := rfl
@[simp] theorem State.withOdo_mgmt (s : State) (x : Odometry) : (s.withOdo x).mgmt = s.mgmt := rfl
@[simp] theorem State.withOdo_faults (s : State) (x : Odometry) : (s.withOdo x).faults = s.faults := rfl
@[simp] theorem State.withOdo_choices (s : State) (x : Odometry) : (s.withOdo x).choices = s.choices := rfl
@[simp] theorem State.withOdo_pending (s : State) (x : Odometry) : (s.withOdo x).pending = s.pending := rfl
@[simp] theorem State.withOdo_withOdo (s : State) (x y : Odometry) : (s.withOdo x).withOdo y = s.withOdo y := rfl

/-! ### withRoute -/

@[simp] theorem State.withRoute_run (s : State) (x : RouteMap) : (s.withRoute x).run = s.run := rfl
@[simp] theorem State.withRoute_ports (s : State) (x : RouteMap) : (s.withRoute x).ports = s.ports := rfl
@[simp] theorem State.withRoute_correctors (s : State) (x : RouteMap) : (s.withRoute x).correctors = s.correctors := rfl
@[simp] theorem State.withRoute_odo (s : State) (x : RouteMap) : (s.withRoute x).odo = s.odo := rfl
@[simp] theorem State.withRoute_route (s : State) (x : RouteMap) : (s.withRoute x).route = x := rfl
@[simp] theorem State.withRoute_assembler (s : State) (x : RouteMap) : (s.withRoute x).assembler = s.assembler := rfl
@[simp] theorem State.withRoute_comparator (s : State) (x : RouteMap) : (s.withRoute x).comparator = s.comparator := rfl
@[simp] theorem State.withRoute_queue (s : State) (x : RouteMap) : (s.withRoute x).queue = s.queue := rfl
@[simp] theorem State.withRoute_mgmt (s : State) (x : RouteMap) : (s.withRoute x).mgmt = s.mgmt := rfl
@[simp] theorem State.withRoute_faults (s : State) (x : RouteMap) : (s.withRoute x).faults = s.faults := rfl
@[simp] theorem State.withRoute_choices (s : State) (x : RouteMap) : (s.withRoute x).choices = s.choices := rfl
@[simp] theorem State.withRoute_pending (s : State) (x : RouteMap) : (s.withRoute x).pending = s.pending := rfl
@[simp] theorem State.withRoute_withRoute (s : State) (x y : RouteMap) : (s.withRoute x).withRoute y = s.withRoute y := rfl

/-! ### withAssembler -/

@[simp] theorem State.withAssembler_run (s : State) (x : Assembler) : (s.withAssembler x).run = s.run := rfl
@[simp] theorem State.withAssembler_ports (s : State) (x : Assembler) : (s.withAssembler x).ports = s.ports := rfl
@[simp] theorem State.withAssembler_correctors (s : State) (x : Assembler) : (s.withAssembler x).correctors = s.correctors := rfl
@[simp] theorem State.withAssembler_odo (s : State) (x : Assembler) : (s.withAssembler x).odo = s.odo := rfl
@[simp] theorem State.withAssembler_route (s : State) (x : Assembler) : (s.withAssembler x).route = s.route := rfl
@[simp] theorem State.withAssembler_assembler (s : State) (x : Assembler) : (s.withAssembler x).assembler = x := rfl
@[simp] theorem State.withAssembler_comparator (s : State) (x : Assembler) : (s.withAssembler x).comparator = s.comparator := rfl
@[simp] theorem State.withAssembler_queue (s : State) (x : Assembler) : (s.withAssembler x).queue = s.queue := rfl
@[simp] theorem State.withAssembler_mgmt (s : State) (x : Assembler) : (s.withAssembler x).mgmt = s.mgmt := rfl
@[simp] theorem State.withAssembler_faults (s : State) (x : Assembler) : (s.withAssembler x).faults = s.faults := rfl
@[simp] theorem State.withAssembler_choices (s : State) (x : Assembler) : (s.withAssembler x).choices = s.choices := rfl
@[simp] theorem State.withAssembler_pending (s : State) (x : Assembler) : (s.withAssembler x).pending = s.pending := rfl
@[simp] theorem State.withAssembler_withAssembler (s : State) (x y : Assembler) : (s.withAssembler x).withAssembler y = s.withAssembler y := rfl

/-! ### withComparator -/

@[simp] theorem State.withComparator_run (s : State) (x : Comparator) : (s.withComparator x).run = s.run := rfl
@[simp] theorem State.withComparator_ports (s : State) (x : Comparator) : (s.withComparator x).ports = s.ports := rfl
@[simp] theorem State.withComparator_correctors (s : State) (x : Comparator) : (s.withComparator x).correctors = s.correctors := rfl
@[simp] theorem State.withComparator_odo (s : State) (x : Comparator) : (s.withComparator x).odo = s.odo := rfl
@[simp] theorem State.withComparator_route (s : State) (x : Comparator) : (s.withComparator x).route = s.route := rfl
@[simp] theorem State.withComparator_assembler (s : State) (x : Comparator) : (s.withComparator x).assembler = s.assembler := rfl
@[simp] theorem State.withComparator_comparator (s : State) (x : Comparator) : (s.withComparator x).comparator = x := rfl
@[simp] theorem State.withComparator_queue (s : State) (x : Comparator) : (s.withComparator x).queue = s.queue := rfl
@[simp] theorem State.withComparator_mgmt (s : State) (x : Comparator) : (s.withComparator x).mgmt = s.mgmt := rfl
@[simp] theorem State.withComparator_faults (s : State) (x : Comparator) : (s.withComparator x).faults = s.faults := rfl
@[simp] theorem State.withComparator_choices (s : State) (x : Comparator) : (s.withComparator x).choices = s.choices := rfl
@[simp] theorem State.withComparator_pending (s : State) (x : Comparator) : (s.withComparator x).pending = s.pending := rfl
@[simp] theorem State.withComparator_withComparator (s : State) (x y : Comparator) : (s.withComparator x).withComparator y = s.withComparator y := rfl

/-! ### withQueue -/

@[simp] theorem State.withQueue_run (s : State) (x : Outbound) : (s.withQueue x).run = s.run := rfl
@[simp] theorem State.withQueue_ports (s : State) (x : Outbound) : (s.withQueue x).ports = s.ports := rfl
@[simp] theorem State.withQueue_correctors (s : State) (x : Outbound) : (s.withQueue x).correctors = s.correctors := rfl
@[simp] theorem State.withQueue_odo (s : State) (x : Outbound) : (s.withQueue x).odo = s.odo := rfl
@[simp] theorem State.withQueue_route (s : State) (x : Outbound) : (s.withQueue x).route = s.route := rfl
@[simp] theorem State.withQueue_assembler (s : State) (x : Outbound) : (s.withQueue x).assembler = s.assembler := rfl
@[simp] theorem State.withQueue_comparator (s : State) (x : Outbound) : (s.withQueue x).comparator = s.comparator := rfl
@[simp] theorem State.withQueue_queue (s : State) (x : Outbound) : (s.withQueue x).queue = x := rfl
@[simp] theorem State.withQueue_mgmt (s : State) (x : Outbound) : (s.withQueue x).mgmt = s.mgmt := rfl
@[simp] theorem State.withQueue_faults (s : State) (x : Outbound) : (s.withQueue x).faults = s.faults := rfl
@[simp] theorem State.withQueue_choices (s : State) (x : Outbound) : (s.withQueue x).choices = s.choices := rfl
@[simp] theorem State.withQueue_pending (s : State) (x : Outbound) : (s.withQueue x).pending = s.pending := rfl
@[simp] theorem State.withQueue_withQueue (s : State) (x y : Outbound) : (s.withQueue x).withQueue y = s.withQueue y := rfl

/-! ### withMgmt -/

@[simp] theorem State.withMgmt_run (s : State) (x : Management) : (s.withMgmt x).run = s.run := rfl
@[simp] theorem State.withMgmt_ports (s : State) (x : Management) : (s.withMgmt x).ports = s.ports := rfl
@[simp] theorem State.withMgmt_correctors (s : State) (x : Management) : (s.withMgmt x).correctors = s.correctors := rfl
@[simp] theorem State.withMgmt_odo (s : State) (x : Management) : (s.withMgmt x).odo = s.odo := rfl
@[simp] theorem State.withMgmt_route (s : State) (x : Management) : (s.withMgmt x).route = s.route := rfl
@[simp] theorem State.withMgmt_assembler (s : State) (x : Management) : (s.withMgmt x).assembler = s.assembler := rfl
@[simp] theorem State.withMgmt_comparator (s : State) (x : Management) : (s.withMgmt x).comparator = s.comparator := rfl
@[simp] theorem State.withMgmt_queue (s : State) (x : Management) : (s.withMgmt x).queue = s.queue := rfl
@[simp] theorem State.withMgmt_mgmt (s : State) (x : Management) : (s.withMgmt x).mgmt = x := rfl
@[simp] theorem State.withMgmt_faults (s : State) (x : Management) : (s.withMgmt x).faults = s.faults := rfl
@[simp] theorem State.withMgmt_choices (s : State) (x : Management) : (s.withMgmt x).choices = s.choices := rfl
@[simp] theorem State.withMgmt_pending (s : State) (x : Management) : (s.withMgmt x).pending = s.pending := rfl
@[simp] theorem State.withMgmt_withMgmt (s : State) (x y : Management) : (s.withMgmt x).withMgmt y = s.withMgmt y := rfl

/-! ### withFaults -/

@[simp] theorem State.withFaults_run (s : State) (x : FaultCapture) : (s.withFaults x).run = s.run := rfl
@[simp] theorem State.withFaults_ports (s : State) (x : FaultCapture) : (s.withFaults x).ports = s.ports := rfl
@[simp] theorem State.withFaults_correctors (s : State) (x : FaultCapture) : (s.withFaults x).correctors = s.correctors := rfl
@[simp] theorem State.withFaults_odo (s : State) (x : FaultCapture) : (s.withFaults x).odo = s.odo := rfl
@[simp] theorem State.withFaults_route (s : State) (x : FaultCapture) : (s.withFaults x).route = s.route := rfl
@[simp] theorem State.withFaults_assembler (s : State) (x : FaultCapture) : (s.withFaults x).assembler = s.assembler := rfl
@[simp] theorem State.withFaults_comparator (s : State) (x : FaultCapture) : (s.withFaults x).comparator = s.comparator := rfl
@[simp] theorem State.withFaults_queue (s : State) (x : FaultCapture) : (s.withFaults x).queue = s.queue := rfl
@[simp] theorem State.withFaults_mgmt (s : State) (x : FaultCapture) : (s.withFaults x).mgmt = s.mgmt := rfl
@[simp] theorem State.withFaults_faults (s : State) (x : FaultCapture) : (s.withFaults x).faults = x := rfl
@[simp] theorem State.withFaults_choices (s : State) (x : FaultCapture) : (s.withFaults x).choices = s.choices := rfl
@[simp] theorem State.withFaults_pending (s : State) (x : FaultCapture) : (s.withFaults x).pending = s.pending := rfl
@[simp] theorem State.withFaults_withFaults (s : State) (x y : FaultCapture) : (s.withFaults x).withFaults y = s.withFaults y := rfl

/-! ### withChoices -/

@[simp] theorem State.withChoices_run (s : State) (x : Nat) : (s.withChoices x).run = s.run := rfl
@[simp] theorem State.withChoices_ports (s : State) (x : Nat) : (s.withChoices x).ports = s.ports := rfl
@[simp] theorem State.withChoices_correctors (s : State) (x : Nat) : (s.withChoices x).correctors = s.correctors := rfl
@[simp] theorem State.withChoices_odo (s : State) (x : Nat) : (s.withChoices x).odo = s.odo := rfl
@[simp] theorem State.withChoices_route (s : State) (x : Nat) : (s.withChoices x).route = s.route := rfl
@[simp] theorem State.withChoices_assembler (s : State) (x : Nat) : (s.withChoices x).assembler = s.assembler := rfl
@[simp] theorem State.withChoices_comparator (s : State) (x : Nat) : (s.withChoices x).comparator = s.comparator := rfl
@[simp] theorem State.withChoices_queue (s : State) (x : Nat) : (s.withChoices x).queue = s.queue := rfl
@[simp] theorem State.withChoices_mgmt (s : State) (x : Nat) : (s.withChoices x).mgmt = s.mgmt := rfl
@[simp] theorem State.withChoices_faults (s : State) (x : Nat) : (s.withChoices x).faults = s.faults := rfl
@[simp] theorem State.withChoices_choices (s : State) (x : Nat) : (s.withChoices x).choices = x := rfl
@[simp] theorem State.withChoices_pending (s : State) (x : Nat) : (s.withChoices x).pending = s.pending := rfl
@[simp] theorem State.withChoices_withChoices (s : State) (x y : Nat) : (s.withChoices x).withChoices y = s.withChoices y := rfl

/-! ### withPending -/

@[simp] theorem State.withPending_run (s : State) (x : List Instr) : (s.withPending x).run = s.run := rfl
@[simp] theorem State.withPending_ports (s : State) (x : List Instr) : (s.withPending x).ports = s.ports := rfl
@[simp] theorem State.withPending_correctors (s : State) (x : List Instr) : (s.withPending x).correctors = s.correctors := rfl
@[simp] theorem State.withPending_odo (s : State) (x : List Instr) : (s.withPending x).odo = s.odo := rfl
@[simp] theorem State.withPending_route (s : State) (x : List Instr) : (s.withPending x).route = s.route := rfl
@[simp] theorem State.withPending_assembler (s : State) (x : List Instr) : (s.withPending x).assembler = s.assembler := rfl
@[simp] theorem State.withPending_comparator (s : State) (x : List Instr) : (s.withPending x).comparator = s.comparator := rfl
@[simp] theorem State.withPending_queue (s : State) (x : List Instr) : (s.withPending x).queue = s.queue := rfl
@[simp] theorem State.withPending_mgmt (s : State) (x : List Instr) : (s.withPending x).mgmt = s.mgmt := rfl
@[simp] theorem State.withPending_faults (s : State) (x : List Instr) : (s.withPending x).faults = s.faults := rfl
@[simp] theorem State.withPending_choices (s : State) (x : List Instr) : (s.withPending x).choices = s.choices := rfl
@[simp] theorem State.withPending_pending (s : State) (x : List Instr) : (s.withPending x).pending = x := rfl
@[simp] theorem State.withPending_withPending (s : State) (x y : List Instr) : (s.withPending x).withPending y = s.withPending y := rfl

/-! ### One port, one head of the Corrector, the run counters -/

@[simp] theorem State.withPort_run (s : State) (p : HeadId) (x : Port) : (s.withPort p x).run = s.run := rfl
@[simp] theorem State.withPort_ports (s : State) (p : HeadId) (x : Port) : (s.withPort p x).ports = s.ports.set p x := rfl
@[simp] theorem State.withPort_correctors (s : State) (p : HeadId) (x : Port) : (s.withPort p x).correctors = s.correctors := rfl
@[simp] theorem State.withPort_odo (s : State) (p : HeadId) (x : Port) : (s.withPort p x).odo = s.odo := rfl
@[simp] theorem State.withPort_route (s : State) (p : HeadId) (x : Port) : (s.withPort p x).route = s.route := rfl
@[simp] theorem State.withPort_assembler (s : State) (p : HeadId) (x : Port) : (s.withPort p x).assembler = s.assembler := rfl
@[simp] theorem State.withPort_comparator (s : State) (p : HeadId) (x : Port) : (s.withPort p x).comparator = s.comparator := rfl
@[simp] theorem State.withPort_queue (s : State) (p : HeadId) (x : Port) : (s.withPort p x).queue = s.queue := rfl
@[simp] theorem State.withPort_mgmt (s : State) (p : HeadId) (x : Port) : (s.withPort p x).mgmt = s.mgmt := rfl
@[simp] theorem State.withPort_faults (s : State) (p : HeadId) (x : Port) : (s.withPort p x).faults = s.faults := rfl
@[simp] theorem State.withPort_choices (s : State) (p : HeadId) (x : Port) : (s.withPort p x).choices = s.choices := rfl
@[simp] theorem State.withPort_pending (s : State) (p : HeadId) (x : Port) : (s.withPort p x).pending = s.pending := rfl

@[simp] theorem State.withCorrector_run (s : State) (p : HeadId) (x : Corrector) : (s.withCorrector p x).run = s.run := rfl
@[simp] theorem State.withCorrector_ports (s : State) (p : HeadId) (x : Corrector) : (s.withCorrector p x).ports = s.ports := rfl
@[simp] theorem State.withCorrector_correctors (s : State) (p : HeadId) (x : Corrector) : (s.withCorrector p x).correctors = s.correctors.set p x := rfl
@[simp] theorem State.withCorrector_odo (s : State) (p : HeadId) (x : Corrector) : (s.withCorrector p x).odo = s.odo := rfl
@[simp] theorem State.withCorrector_route (s : State) (p : HeadId) (x : Corrector) : (s.withCorrector p x).route = s.route := rfl
@[simp] theorem State.withCorrector_assembler (s : State) (p : HeadId) (x : Corrector) : (s.withCorrector p x).assembler = s.assembler := rfl
@[simp] theorem State.withCorrector_comparator (s : State) (p : HeadId) (x : Corrector) : (s.withCorrector p x).comparator = s.comparator := rfl
@[simp] theorem State.withCorrector_queue (s : State) (p : HeadId) (x : Corrector) : (s.withCorrector p x).queue = s.queue := rfl
@[simp] theorem State.withCorrector_mgmt (s : State) (p : HeadId) (x : Corrector) : (s.withCorrector p x).mgmt = s.mgmt := rfl
@[simp] theorem State.withCorrector_faults (s : State) (p : HeadId) (x : Corrector) : (s.withCorrector p x).faults = s.faults := rfl
@[simp] theorem State.withCorrector_choices (s : State) (p : HeadId) (x : Corrector) : (s.withCorrector p x).choices = s.choices := rfl
@[simp] theorem State.withCorrector_pending (s : State) (p : HeadId) (x : Corrector) : (s.withCorrector p x).pending = s.pending := rfl

@[simp] theorem State.withCounters_run (s : State) (x : RunCounters) : (s.withCounters x).run = { s.run with counters := x } := rfl
@[simp] theorem State.withCounters_ports (s : State) (x : RunCounters) : (s.withCounters x).ports = s.ports := rfl
@[simp] theorem State.withCounters_correctors (s : State) (x : RunCounters) : (s.withCounters x).correctors = s.correctors := rfl
@[simp] theorem State.withCounters_odo (s : State) (x : RunCounters) : (s.withCounters x).odo = s.odo := rfl
@[simp] theorem State.withCounters_route (s : State) (x : RunCounters) : (s.withCounters x).route = s.route := rfl
@[simp] theorem State.withCounters_assembler (s : State) (x : RunCounters) : (s.withCounters x).assembler = s.assembler := rfl
@[simp] theorem State.withCounters_comparator (s : State) (x : RunCounters) : (s.withCounters x).comparator = s.comparator := rfl
@[simp] theorem State.withCounters_queue (s : State) (x : RunCounters) : (s.withCounters x).queue = s.queue := rfl
@[simp] theorem State.withCounters_mgmt (s : State) (x : RunCounters) : (s.withCounters x).mgmt = s.mgmt := rfl
@[simp] theorem State.withCounters_faults (s : State) (x : RunCounters) : (s.withCounters x).faults = s.faults := rfl
@[simp] theorem State.withCounters_choices (s : State) (x : RunCounters) : (s.withCounters x).choices = s.choices := rfl
@[simp] theorem State.withCounters_pending (s : State) (x : RunCounters) : (s.withCounters x).pending = s.pending := rfl

/-! ### Values per head -/

@[simp] theorem PerHead.get_set {α : Type} (t : PerHead α) (p : HeadId) (x : α) : (t.set p x).get p = x := by
  cases p <;> rfl

theorem PerHead.get_set_ne {α : Type} (t : PerHead α) (p q : HeadId) (x : α) (h : q ≠ p) :
    (t.set p x).get q = t.get q := by
  cases p <;> cases q <;> first | rfl | exact absurd rfl h

theorem PerHead.get_set_ite {α : Type} (t : PerHead α) (p q : HeadId) (x : α) :
    (t.set p x).get q = if q = p then x else t.get q := by
  cases p <;> cases q <;> rfl

@[simp] theorem PerHead.set_get {α : Type} (t : PerHead α) (p : HeadId) : t.set p (t.get p) = t := by
  cases p <;> rfl

@[simp] theorem PerHead.set_set {α : Type} (t : PerHead α) (p : HeadId) (x y : α) : (t.set p x).set p y = t.set p y := by
  cases p <;> rfl

@[simp] theorem PerHead.get_map {α β : Type} (f : α → β) (t : PerHead α) (p : HeadId) : (t.map f).get p = f (t.get p) := by
  cases p <;> rfl

theorem PerHead.ext_get {α : Type} {t u : PerHead α} (h : ∀ p, t.get p = u.get p) : t = u := by
  cases t; cases u
  have h0 := h .h0; have h1 := h .h1; have h2 := h .h2
  simp only [PerHead.get] at h0 h1 h2
  subst h0; subst h1; subst h2; rfl

/-- A statement of every port, from one of each. -/
theorem anyStreaming_eq (ports : PerHead Port) :
    anyStreaming ports = true ↔ ∃ p, (ports.get p).state = .streaming := by
  simp only [anyStreaming, PerHead.toList, List.any_cons, List.any_nil, Bool.or_false, Bool.or_eq_true, beq_iff_eq]
  constructor
  · rintro (h | h | h)
    · exact ⟨.h0, h⟩
    · exact ⟨.h1, h⟩
    · exact ⟨.h2, h⟩
  · rintro ⟨p, h⟩
    cases p
    · exact Or.inl h
    · exact Or.inr (Or.inl h)
    · exact Or.inr (Or.inr h)

end Sys2Proof.Machine
end

