-- ==== Sys2Proof/Laws/Frames.lean ====
section
/-! SUPPORT. What each offer of a record, each closure and each halt leaves unchanged, one lemma for each block, so that a
later proof need not look into the operation. -/

namespace Sys2Proof.Machine

/-! ### The end of an event -/

@[simp] theorem endEvent_ports (s : State) : (endEvent s).ports = s.ports := by
  rfl
@[simp] theorem endEvent_correctors (s : State) : (endEvent s).correctors = s.correctors := by
  rfl
@[simp] theorem endEvent_odo (s : State) : (endEvent s).odo = s.odo := by
  rfl
@[simp] theorem endEvent_route (s : State) : (endEvent s).route = s.route := by
  rfl
@[simp] theorem endEvent_assembler (s : State) : (endEvent s).assembler = s.assembler := by
  rfl
@[simp] theorem endEvent_comparator (s : State) : (endEvent s).comparator = s.comparator := by
  rfl
@[simp] theorem endEvent_mgmt (s : State) : (endEvent s).mgmt = s.mgmt := by
  rfl
@[simp] theorem endEvent_choices (s : State) : (endEvent s).choices = s.choices := by
  rfl
@[simp] theorem endEvent_pending (s : State) : (endEvent s).pending = s.pending := by
  rfl
@[simp] theorem endEvent_run (s : State) : (endEvent s).run = s.run := by
  rfl
@[simp] theorem endEvent_faults (s : State) : (endEvent s).faults = s.faults := by
  rfl

@[simp] theorem endEvent_queue (s : State) : (endEvent s).queue = arbitrate s.queue := rfl

/-! ### Offers -/

@[simp] theorem dropEvent_faults_headLoss (s : State) : (dropEvent s).faults.headLoss = s.faults.headLoss := by
  rfl
@[simp] theorem dropEvent_faults_linkLoss (s : State) : (dropEvent s).faults.linkLoss = s.faults.linkLoss := by
  rfl
@[simp] theorem dropEvent_ports (s : State) : (dropEvent s).ports = s.ports := by
  rfl
@[simp] theorem dropEvent_correctors (s : State) : (dropEvent s).correctors = s.correctors := by
  rfl
@[simp] theorem dropEvent_odo (s : State) : (dropEvent s).odo = s.odo := by
  rfl
@[simp] theorem dropEvent_route (s : State) : (dropEvent s).route = s.route := by
  rfl
@[simp] theorem dropEvent_assembler (s : State) : (dropEvent s).assembler = s.assembler := by
  rfl
@[simp] theorem dropEvent_comparator (s : State) : (dropEvent s).comparator = s.comparator := by
  rfl
@[simp] theorem dropEvent_mgmt (s : State) : (dropEvent s).mgmt = s.mgmt := by
  rfl
@[simp] theorem dropEvent_choices (s : State) : (dropEvent s).choices = s.choices := by
  rfl
@[simp] theorem dropEvent_pending (s : State) : (dropEvent s).pending = s.pending := by
  rfl
@[simp] theorem dropEvent_run_runState (s : State) : (dropEvent s).run.runState = s.run.runState := by
  rfl
@[simp] theorem dropEvent_run_params (s : State) : (dropEvent s).run.params = s.run.params := by
  rfl
@[simp] theorem dropEvent_run_runNumber (s : State) : (dropEvent s).run.runNumber = s.run.runNumber := by
  rfl
@[simp] theorem dropEvent_run_startTime (s : State) : (dropEvent s).run.startTime = s.run.startTime := by
  rfl
@[simp] theorem dropEvent_run_timebase (s : State) : (dropEvent s).run.timebase = s.run.timebase := by
  rfl
@[simp] theorem dropEvent_run_paramsSet (s : State) : (dropEvent s).run.paramsSet = s.run.paramsSet := by
  rfl
@[simp] theorem dropEvent_queue_linkUp (s : State) : (dropEvent s).queue.linkUp = s.queue.linkUp := by
  rfl
@[simp] theorem dropEvent_queue_floor (s : State) : (dropEvent s).queue.floor = s.queue.floor := by
  rfl
@[simp] theorem dropEvent_queue_sending (s : State) : (dropEvent s).queue.sending = s.queue.sending := by
  rfl
@[simp] theorem dropEvent_queue_responseClaim (s : State) : (dropEvent s).queue.responseClaim = s.queue.responseClaim := by
  rfl

@[simp] theorem offerEvent_faults_headLoss (e : EventRecord) (s : State) : (offerEvent e s).faults.headLoss = s.faults.headLoss := by
  unfold offerEvent; split <;> rfl
@[simp] theorem offerEvent_faults_linkLoss (e : EventRecord) (s : State) : (offerEvent e s).faults.linkLoss = s.faults.linkLoss := by
  unfold offerEvent; split <;> rfl
@[simp] theorem offerEvent_ports (e : EventRecord) (s : State) : (offerEvent e s).ports = s.ports := by
  unfold offerEvent; split <;> rfl
@[simp] theorem offerEvent_correctors (e : EventRecord) (s : State) : (offerEvent e s).correctors = s.correctors := by
  unfold offerEvent; split <;> rfl
@[simp] theorem offerEvent_odo (e : EventRecord) (s : State) : (offerEvent e s).odo = s.odo := by
  unfold offerEvent; split <;> rfl
@[simp] theorem offerEvent_route (e : EventRecord) (s : State) : (offerEvent e s).route = s.route := by
  unfold offerEvent; split <;> rfl
@[simp] theorem offerEvent_assembler (e : EventRecord) (s : State) : (offerEvent e s).assembler = s.assembler := by
  unfold offerEvent; split <;> rfl
@[simp] theorem offerEvent_comparator (e : EventRecord) (s : State) : (offerEvent e s).comparator = s.comparator := by
  unfold offerEvent; split <;> rfl
@[simp] theorem offerEvent_mgmt (e : EventRecord) (s : State) : (offerEvent e s).mgmt = s.mgmt := by
  unfold offerEvent; split <;> rfl
@[simp] theorem offerEvent_choices (e : EventRecord) (s : State) : (offerEvent e s).choices = s.choices := by
  unfold offerEvent; split <;> rfl
@[simp] theorem offerEvent_pending (e : EventRecord) (s : State) : (offerEvent e s).pending = s.pending := by
  unfold offerEvent; split <;> rfl
@[simp] theorem offerEvent_run_runState (e : EventRecord) (s : State) : (offerEvent e s).run.runState = s.run.runState := by
  unfold offerEvent; split <;> rfl
@[simp] theorem offerEvent_run_params (e : EventRecord) (s : State) : (offerEvent e s).run.params = s.run.params := by
  unfold offerEvent; split <;> rfl
@[simp] theorem offerEvent_run_runNumber (e : EventRecord) (s : State) : (offerEvent e s).run.runNumber = s.run.runNumber := by
  unfold offerEvent; split <;> rfl
@[simp] theorem offerEvent_run_startTime (e : EventRecord) (s : State) : (offerEvent e s).run.startTime = s.run.startTime := by
  unfold offerEvent; split <;> rfl
@[simp] theorem offerEvent_run_timebase (e : EventRecord) (s : State) : (offerEvent e s).run.timebase = s.run.timebase := by
  unfold offerEvent; split <;> rfl
@[simp] theorem offerEvent_run_paramsSet (e : EventRecord) (s : State) : (offerEvent e s).run.paramsSet = s.run.paramsSet := by
  unfold offerEvent; split <;> rfl
@[simp] theorem offerEvent_queue_linkUp (e : EventRecord) (s : State) : (offerEvent e s).queue.linkUp = s.queue.linkUp := by
  unfold offerEvent; split <;> rfl
@[simp] theorem offerEvent_queue_floor (e : EventRecord) (s : State) : (offerEvent e s).queue.floor = s.queue.floor := by
  unfold offerEvent; split <;> rfl
@[simp] theorem offerEvent_queue_sending (e : EventRecord) (s : State) : (offerEvent e s).queue.sending = s.queue.sending := by
  unfold offerEvent; split <;> rfl
@[simp] theorem offerEvent_queue_responseClaim (e : EventRecord) (s : State) : (offerEvent e s).queue.responseClaim = s.queue.responseClaim := by
  unfold offerEvent; split <;> rfl

@[simp] theorem raiseSoft_faults_headLoss (src : Source) (d : EventDetail) (s : State) : (raiseSoft src d s).faults.headLoss = s.faults.headLoss := by
  simp [raiseSoft, captureSoft]
@[simp] theorem raiseSoft_faults_linkLoss (src : Source) (d : EventDetail) (s : State) : (raiseSoft src d s).faults.linkLoss = s.faults.linkLoss := by
  simp [raiseSoft, captureSoft]
@[simp] theorem raiseSoft_ports (src : Source) (d : EventDetail) (s : State) : (raiseSoft src d s).ports = s.ports := by
  simp [raiseSoft, captureSoft]
@[simp] theorem raiseSoft_correctors (src : Source) (d : EventDetail) (s : State) : (raiseSoft src d s).correctors = s.correctors := by
  simp [raiseSoft, captureSoft]
@[simp] theorem raiseSoft_odo (src : Source) (d : EventDetail) (s : State) : (raiseSoft src d s).odo = s.odo := by
  simp [raiseSoft, captureSoft]
@[simp] theorem raiseSoft_route (src : Source) (d : EventDetail) (s : State) : (raiseSoft src d s).route = s.route := by
  simp [raiseSoft, captureSoft]
@[simp] theorem raiseSoft_assembler (src : Source) (d : EventDetail) (s : State) : (raiseSoft src d s).assembler = s.assembler := by
  simp [raiseSoft, captureSoft]
@[simp] theorem raiseSoft_comparator (src : Source) (d : EventDetail) (s : State) : (raiseSoft src d s).comparator = s.comparator := by
  simp [raiseSoft, captureSoft]
@[simp] theorem raiseSoft_mgmt (src : Source) (d : EventDetail) (s : State) : (raiseSoft src d s).mgmt = s.mgmt := by
  simp [raiseSoft, captureSoft]
@[simp] theorem raiseSoft_choices (src : Source) (d : EventDetail) (s : State) : (raiseSoft src d s).choices = s.choices := by
  simp [raiseSoft, captureSoft]
@[simp] theorem raiseSoft_pending (src : Source) (d : EventDetail) (s : State) : (raiseSoft src d s).pending = s.pending := by
  simp [raiseSoft, captureSoft]
@[simp] theorem raiseSoft_run_runState (src : Source) (d : EventDetail) (s : State) : (raiseSoft src d s).run.runState = s.run.runState := by
  simp [raiseSoft, captureSoft]
@[simp] theorem raiseSoft_run_params (src : Source) (d : EventDetail) (s : State) : (raiseSoft src d s).run.params = s.run.params := by
  simp [raiseSoft, captureSoft]
@[simp] theorem raiseSoft_run_runNumber (src : Source) (d : EventDetail) (s : State) : (raiseSoft src d s).run.runNumber = s.run.runNumber := by
  simp [raiseSoft, captureSoft]
@[simp] theorem raiseSoft_run_startTime (src : Source) (d : EventDetail) (s : State) : (raiseSoft src d s).run.startTime = s.run.startTime := by
  simp [raiseSoft, captureSoft]
@[simp] theorem raiseSoft_run_timebase (src : Source) (d : EventDetail) (s : State) : (raiseSoft src d s).run.timebase = s.run.timebase := by
  simp [raiseSoft, captureSoft]
@[simp] theorem raiseSoft_run_paramsSet (src : Source) (d : EventDetail) (s : State) : (raiseSoft src d s).run.paramsSet = s.run.paramsSet := by
  simp [raiseSoft, captureSoft]
@[simp] theorem raiseSoft_queue_linkUp (src : Source) (d : EventDetail) (s : State) : (raiseSoft src d s).queue.linkUp = s.queue.linkUp := by
  simp [raiseSoft, captureSoft]
@[simp] theorem raiseSoft_queue_floor (src : Source) (d : EventDetail) (s : State) : (raiseSoft src d s).queue.floor = s.queue.floor := by
  simp [raiseSoft, captureSoft]
@[simp] theorem raiseSoft_queue_sending (src : Source) (d : EventDetail) (s : State) : (raiseSoft src d s).queue.sending = s.queue.sending := by
  simp [raiseSoft, captureSoft]
@[simp] theorem raiseSoft_queue_responseClaim (src : Source) (d : EventDetail) (s : State) : (raiseSoft src d s).queue.responseClaim = s.queue.responseClaim := by
  simp [raiseSoft, captureSoft]

@[simp] theorem raiseHard_faults_headLoss (src : Source) (d : EventDetail) (s : State) : (raiseHard src d s).faults.headLoss = s.faults.headLoss := by
  simp [raiseHard, captureHard]
@[simp] theorem raiseHard_faults_linkLoss (src : Source) (d : EventDetail) (s : State) : (raiseHard src d s).faults.linkLoss = s.faults.linkLoss := by
  simp [raiseHard, captureHard]
@[simp] theorem raiseHard_ports (src : Source) (d : EventDetail) (s : State) : (raiseHard src d s).ports = s.ports := by
  simp [raiseHard, captureHard]
@[simp] theorem raiseHard_correctors (src : Source) (d : EventDetail) (s : State) : (raiseHard src d s).correctors = s.correctors := by
  simp [raiseHard, captureHard]
@[simp] theorem raiseHard_odo (src : Source) (d : EventDetail) (s : State) : (raiseHard src d s).odo = s.odo := by
  simp [raiseHard, captureHard]
@[simp] theorem raiseHard_route (src : Source) (d : EventDetail) (s : State) : (raiseHard src d s).route = s.route := by
  simp [raiseHard, captureHard]
@[simp] theorem raiseHard_assembler (src : Source) (d : EventDetail) (s : State) : (raiseHard src d s).assembler = s.assembler := by
  simp [raiseHard, captureHard]
@[simp] theorem raiseHard_comparator (src : Source) (d : EventDetail) (s : State) : (raiseHard src d s).comparator = s.comparator := by
  simp [raiseHard, captureHard]
@[simp] theorem raiseHard_mgmt (src : Source) (d : EventDetail) (s : State) : (raiseHard src d s).mgmt = s.mgmt := by
  simp [raiseHard, captureHard]
@[simp] theorem raiseHard_choices (src : Source) (d : EventDetail) (s : State) : (raiseHard src d s).choices = s.choices := by
  simp [raiseHard, captureHard]
@[simp] theorem raiseHard_pending (src : Source) (d : EventDetail) (s : State) : (raiseHard src d s).pending = s.pending := by
  simp [raiseHard, captureHard]
@[simp] theorem raiseHard_run_runState (src : Source) (d : EventDetail) (s : State) : (raiseHard src d s).run.runState = s.run.runState := by
  simp [raiseHard, captureHard]
@[simp] theorem raiseHard_run_params (src : Source) (d : EventDetail) (s : State) : (raiseHard src d s).run.params = s.run.params := by
  simp [raiseHard, captureHard]
@[simp] theorem raiseHard_run_runNumber (src : Source) (d : EventDetail) (s : State) : (raiseHard src d s).run.runNumber = s.run.runNumber := by
  simp [raiseHard, captureHard]
@[simp] theorem raiseHard_run_startTime (src : Source) (d : EventDetail) (s : State) : (raiseHard src d s).run.startTime = s.run.startTime := by
  simp [raiseHard, captureHard]
@[simp] theorem raiseHard_run_timebase (src : Source) (d : EventDetail) (s : State) : (raiseHard src d s).run.timebase = s.run.timebase := by
  simp [raiseHard, captureHard]
@[simp] theorem raiseHard_run_paramsSet (src : Source) (d : EventDetail) (s : State) : (raiseHard src d s).run.paramsSet = s.run.paramsSet := by
  simp [raiseHard, captureHard]
@[simp] theorem raiseHard_queue_linkUp (src : Source) (d : EventDetail) (s : State) : (raiseHard src d s).queue.linkUp = s.queue.linkUp := by
  simp [raiseHard, captureHard]
@[simp] theorem raiseHard_queue_floor (src : Source) (d : EventDetail) (s : State) : (raiseHard src d s).queue.floor = s.queue.floor := by
  simp [raiseHard, captureHard]
@[simp] theorem raiseHard_queue_sending (src : Source) (d : EventDetail) (s : State) : (raiseHard src d s).queue.sending = s.queue.sending := by
  simp [raiseHard, captureHard]
@[simp] theorem raiseHard_queue_responseClaim (src : Source) (d : EventDetail) (s : State) : (raiseHard src d s).queue.responseClaim = s.queue.responseClaim := by
  simp [raiseHard, captureHard]

@[simp] theorem loseIntrusion_faults_headLoss (r : IntrusionRecord) (s : State) : (loseIntrusion r s).faults.headLoss = s.faults.headLoss := by
  simp [loseIntrusion]
@[simp] theorem loseIntrusion_faults_linkLoss (r : IntrusionRecord) (s : State) : (loseIntrusion r s).faults.linkLoss = s.faults.linkLoss := by
  simp [loseIntrusion]
@[simp] theorem loseIntrusion_ports (r : IntrusionRecord) (s : State) : (loseIntrusion r s).ports = s.ports := by
  simp [loseIntrusion]
@[simp] theorem loseIntrusion_correctors (r : IntrusionRecord) (s : State) : (loseIntrusion r s).correctors = s.correctors := by
  simp [loseIntrusion]
@[simp] theorem loseIntrusion_odo (r : IntrusionRecord) (s : State) : (loseIntrusion r s).odo = s.odo := by
  simp [loseIntrusion]
@[simp] theorem loseIntrusion_route (r : IntrusionRecord) (s : State) : (loseIntrusion r s).route = s.route := by
  simp [loseIntrusion]
@[simp] theorem loseIntrusion_assembler (r : IntrusionRecord) (s : State) : (loseIntrusion r s).assembler = s.assembler := by
  simp [loseIntrusion]
@[simp] theorem loseIntrusion_comparator (r : IntrusionRecord) (s : State) : (loseIntrusion r s).comparator = s.comparator := by
  simp [loseIntrusion]
@[simp] theorem loseIntrusion_mgmt (r : IntrusionRecord) (s : State) : (loseIntrusion r s).mgmt = s.mgmt := by
  simp [loseIntrusion]
@[simp] theorem loseIntrusion_choices (r : IntrusionRecord) (s : State) : (loseIntrusion r s).choices = s.choices := by
  simp [loseIntrusion]
@[simp] theorem loseIntrusion_pending (r : IntrusionRecord) (s : State) : (loseIntrusion r s).pending = s.pending := by
  simp [loseIntrusion]
@[simp] theorem loseIntrusion_run_runState (r : IntrusionRecord) (s : State) : (loseIntrusion r s).run.runState = s.run.runState := by
  simp [loseIntrusion]
@[simp] theorem loseIntrusion_run_params (r : IntrusionRecord) (s : State) : (loseIntrusion r s).run.params = s.run.params := by
  simp [loseIntrusion]
@[simp] theorem loseIntrusion_run_runNumber (r : IntrusionRecord) (s : State) : (loseIntrusion r s).run.runNumber = s.run.runNumber := by
  simp [loseIntrusion]
@[simp] theorem loseIntrusion_run_startTime (r : IntrusionRecord) (s : State) : (loseIntrusion r s).run.startTime = s.run.startTime := by
  simp [loseIntrusion]
@[simp] theorem loseIntrusion_run_timebase (r : IntrusionRecord) (s : State) : (loseIntrusion r s).run.timebase = s.run.timebase := by
  simp [loseIntrusion]
@[simp] theorem loseIntrusion_run_paramsSet (r : IntrusionRecord) (s : State) : (loseIntrusion r s).run.paramsSet = s.run.paramsSet := by
  simp [loseIntrusion]
@[simp] theorem loseIntrusion_queue_linkUp (r : IntrusionRecord) (s : State) : (loseIntrusion r s).queue.linkUp = s.queue.linkUp := by
  simp [loseIntrusion]
@[simp] theorem loseIntrusion_queue_floor (r : IntrusionRecord) (s : State) : (loseIntrusion r s).queue.floor = s.queue.floor := by
  simp [loseIntrusion]
@[simp] theorem loseIntrusion_queue_sending (r : IntrusionRecord) (s : State) : (loseIntrusion r s).queue.sending = s.queue.sending := by
  simp [loseIntrusion]
@[simp] theorem loseIntrusion_queue_responseClaim (r : IntrusionRecord) (s : State) : (loseIntrusion r s).queue.responseClaim = s.queue.responseClaim := by
  simp [loseIntrusion]

@[simp] theorem offerIntrusion_faults_headLoss (r : IntrusionRecord) (s : State) : ((offerIntrusion r s).1).faults.headLoss = s.faults.headLoss := by
  unfold offerIntrusion; repeat' split
  all_goals first | rfl | simp
@[simp] theorem offerIntrusion_faults_linkLoss (r : IntrusionRecord) (s : State) : ((offerIntrusion r s).1).faults.linkLoss = s.faults.linkLoss := by
  unfold offerIntrusion; repeat' split
  all_goals first | rfl | simp
@[simp] theorem offerIntrusion_ports (r : IntrusionRecord) (s : State) : ((offerIntrusion r s).1).ports = s.ports := by
  unfold offerIntrusion; repeat' split
  all_goals first | rfl | simp
@[simp] theorem offerIntrusion_correctors (r : IntrusionRecord) (s : State) : ((offerIntrusion r s).1).correctors = s.correctors := by
  unfold offerIntrusion; repeat' split
  all_goals first | rfl | simp
@[simp] theorem offerIntrusion_odo (r : IntrusionRecord) (s : State) : ((offerIntrusion r s).1).odo = s.odo := by
  unfold offerIntrusion; repeat' split
  all_goals first | rfl | simp
@[simp] theorem offerIntrusion_route (r : IntrusionRecord) (s : State) : ((offerIntrusion r s).1).route = s.route := by
  unfold offerIntrusion; repeat' split
  all_goals first | rfl | simp
@[simp] theorem offerIntrusion_assembler (r : IntrusionRecord) (s : State) : ((offerIntrusion r s).1).assembler = s.assembler := by
  unfold offerIntrusion; repeat' split
  all_goals first | rfl | simp
@[simp] theorem offerIntrusion_comparator (r : IntrusionRecord) (s : State) : ((offerIntrusion r s).1).comparator = s.comparator := by
  unfold offerIntrusion; repeat' split
  all_goals first | rfl | simp
@[simp] theorem offerIntrusion_mgmt (r : IntrusionRecord) (s : State) : ((offerIntrusion r s).1).mgmt = s.mgmt := by
  unfold offerIntrusion; repeat' split
  all_goals first | rfl | simp
@[simp] theorem offerIntrusion_choices (r : IntrusionRecord) (s : State) : ((offerIntrusion r s).1).choices = s.choices := by
  unfold offerIntrusion; repeat' split
  all_goals first | rfl | simp
@[simp] theorem offerIntrusion_pending (r : IntrusionRecord) (s : State) : ((offerIntrusion r s).1).pending = s.pending := by
  unfold offerIntrusion; repeat' split
  all_goals first | rfl | simp
@[simp] theorem offerIntrusion_run_runState (r : IntrusionRecord) (s : State) : ((offerIntrusion r s).1).run.runState = s.run.runState := by
  unfold offerIntrusion; repeat' split
  all_goals first | rfl | simp
@[simp] theorem offerIntrusion_run_params (r : IntrusionRecord) (s : State) : ((offerIntrusion r s).1).run.params = s.run.params := by
  unfold offerIntrusion; repeat' split
  all_goals first | rfl | simp
@[simp] theorem offerIntrusion_run_runNumber (r : IntrusionRecord) (s : State) : ((offerIntrusion r s).1).run.runNumber = s.run.runNumber := by
  unfold offerIntrusion; repeat' split
  all_goals first | rfl | simp
@[simp] theorem offerIntrusion_run_startTime (r : IntrusionRecord) (s : State) : ((offerIntrusion r s).1).run.startTime = s.run.startTime := by
  unfold offerIntrusion; repeat' split
  all_goals first | rfl | simp
@[simp] theorem offerIntrusion_run_timebase (r : IntrusionRecord) (s : State) : ((offerIntrusion r s).1).run.timebase = s.run.timebase := by
  unfold offerIntrusion; repeat' split
  all_goals first | rfl | simp
@[simp] theorem offerIntrusion_run_paramsSet (r : IntrusionRecord) (s : State) : ((offerIntrusion r s).1).run.paramsSet = s.run.paramsSet := by
  unfold offerIntrusion; repeat' split
  all_goals first | rfl | simp
@[simp] theorem offerIntrusion_queue_linkUp (r : IntrusionRecord) (s : State) : ((offerIntrusion r s).1).queue.linkUp = s.queue.linkUp := by
  unfold offerIntrusion; repeat' split
  all_goals first | rfl | simp
@[simp] theorem offerIntrusion_queue_floor (r : IntrusionRecord) (s : State) : ((offerIntrusion r s).1).queue.floor = s.queue.floor := by
  unfold offerIntrusion; repeat' split
  all_goals first | rfl | simp
@[simp] theorem offerIntrusion_queue_sending (r : IntrusionRecord) (s : State) : ((offerIntrusion r s).1).queue.sending = s.queue.sending := by
  unfold offerIntrusion; repeat' split
  all_goals first | rfl | simp
@[simp] theorem offerIntrusion_queue_responseClaim (r : IntrusionRecord) (s : State) : ((offerIntrusion r s).1).queue.responseClaim = s.queue.responseClaim := by
  unfold offerIntrusion; repeat' split
  all_goals first | rfl | simp

@[simp] theorem offerRunEnd_ports (r : RunEndRecord) (s : State) : (offerRunEnd r s).ports = s.ports := by
  unfold offerRunEnd; split <;> rfl
@[simp] theorem offerRunEnd_correctors (r : RunEndRecord) (s : State) : (offerRunEnd r s).correctors = s.correctors := by
  unfold offerRunEnd; split <;> rfl
@[simp] theorem offerRunEnd_odo (r : RunEndRecord) (s : State) : (offerRunEnd r s).odo = s.odo := by
  unfold offerRunEnd; split <;> rfl
@[simp] theorem offerRunEnd_route (r : RunEndRecord) (s : State) : (offerRunEnd r s).route = s.route := by
  unfold offerRunEnd; split <;> rfl
@[simp] theorem offerRunEnd_assembler (r : RunEndRecord) (s : State) : (offerRunEnd r s).assembler = s.assembler := by
  unfold offerRunEnd; split <;> rfl
@[simp] theorem offerRunEnd_comparator (r : RunEndRecord) (s : State) : (offerRunEnd r s).comparator = s.comparator := by
  unfold offerRunEnd; split <;> rfl
@[simp] theorem offerRunEnd_mgmt (r : RunEndRecord) (s : State) : (offerRunEnd r s).mgmt = s.mgmt := by
  unfold offerRunEnd; split <;> rfl
@[simp] theorem offerRunEnd_choices (r : RunEndRecord) (s : State) : (offerRunEnd r s).choices = s.choices := by
  unfold offerRunEnd; split <;> rfl
@[simp] theorem offerRunEnd_pending (r : RunEndRecord) (s : State) : (offerRunEnd r s).pending = s.pending := by
  unfold offerRunEnd; split <;> rfl
@[simp] theorem offerRunEnd_run_runState (r : RunEndRecord) (s : State) : (offerRunEnd r s).run.runState = s.run.runState := by
  unfold offerRunEnd; split <;> rfl
@[simp] theorem offerRunEnd_run_params (r : RunEndRecord) (s : State) : (offerRunEnd r s).run.params = s.run.params := by
  unfold offerRunEnd; split <;> rfl
@[simp] theorem offerRunEnd_run_runNumber (r : RunEndRecord) (s : State) : (offerRunEnd r s).run.runNumber = s.run.runNumber := by
  unfold offerRunEnd; split <;> rfl
@[simp] theorem offerRunEnd_run_startTime (r : RunEndRecord) (s : State) : (offerRunEnd r s).run.startTime = s.run.startTime := by
  unfold offerRunEnd; split <;> rfl
@[simp] theorem offerRunEnd_run_timebase (r : RunEndRecord) (s : State) : (offerRunEnd r s).run.timebase = s.run.timebase := by
  unfold offerRunEnd; split <;> rfl
@[simp] theorem offerRunEnd_run_paramsSet (r : RunEndRecord) (s : State) : (offerRunEnd r s).run.paramsSet = s.run.paramsSet := by
  unfold offerRunEnd; split <;> rfl
@[simp] theorem offerRunEnd_queue_linkUp (r : RunEndRecord) (s : State) : (offerRunEnd r s).queue.linkUp = s.queue.linkUp := by
  unfold offerRunEnd; split <;> rfl
@[simp] theorem offerRunEnd_queue_floor (r : RunEndRecord) (s : State) : (offerRunEnd r s).queue.floor = s.queue.floor := by
  unfold offerRunEnd; split <;> rfl
@[simp] theorem offerRunEnd_queue_sending (r : RunEndRecord) (s : State) : (offerRunEnd r s).queue.sending = s.queue.sending := by
  unfold offerRunEnd; split <;> rfl
@[simp] theorem offerRunEnd_queue_responseClaim (r : RunEndRecord) (s : State) : (offerRunEnd r s).queue.responseClaim = s.queue.responseClaim := by
  unfold offerRunEnd; split <;> rfl
@[simp] theorem offerRunEnd_run (r : RunEndRecord) (s : State) : (offerRunEnd r s).run = s.run := by
  unfold offerRunEnd; split <;> rfl
@[simp] theorem offerRunEnd_faults (r : RunEndRecord) (s : State) : (offerRunEnd r s).faults = s.faults := by
  unfold offerRunEnd; split <;> rfl
@[simp] theorem offerRunEnd_queue_level (r : RunEndRecord) (s : State) : (offerRunEnd r s).queue.level = s.queue.level := by
  unfold offerRunEnd; split <;> rfl
@[simp] theorem offerRunEnd_queue_keep (r : RunEndRecord) (s : State) : (offerRunEnd r s).queue.keep = s.queue.keep := by
  unfold offerRunEnd; split <;> rfl
@[simp] theorem offerRunEnd_queue_counters (r : RunEndRecord) (s : State) : (offerRunEnd r s).queue.counters = s.queue.counters := by
  unfold offerRunEnd; split <;> rfl
@[simp] theorem offerRunEnd_queue_data (r : RunEndRecord) (s : State) : (offerRunEnd r s).queue.data = s.queue.data := by
  unfold offerRunEnd; split <;> rfl

@[simp] theorem dropProfile_faults_headLoss (c : ProfileContent) (s : State) : (dropProfile c s).faults.headLoss = s.faults.headLoss := by
  simp [dropProfile]
@[simp] theorem dropProfile_faults_linkLoss (c : ProfileContent) (s : State) : (dropProfile c s).faults.linkLoss = s.faults.linkLoss := by
  simp [dropProfile]
@[simp] theorem dropProfile_ports (c : ProfileContent) (s : State) : (dropProfile c s).ports = s.ports := by
  simp [dropProfile]
@[simp] theorem dropProfile_correctors (c : ProfileContent) (s : State) : (dropProfile c s).correctors = s.correctors := by
  simp [dropProfile]
@[simp] theorem dropProfile_odo (c : ProfileContent) (s : State) : (dropProfile c s).odo = s.odo := by
  simp [dropProfile]
@[simp] theorem dropProfile_route (c : ProfileContent) (s : State) : (dropProfile c s).route = s.route := by
  simp [dropProfile]
@[simp] theorem dropProfile_assembler (c : ProfileContent) (s : State) : (dropProfile c s).assembler = s.assembler := by
  simp [dropProfile]
@[simp] theorem dropProfile_comparator (c : ProfileContent) (s : State) : (dropProfile c s).comparator = s.comparator := by
  simp [dropProfile]
@[simp] theorem dropProfile_mgmt (c : ProfileContent) (s : State) : (dropProfile c s).mgmt = s.mgmt := by
  simp [dropProfile]
@[simp] theorem dropProfile_choices (c : ProfileContent) (s : State) : (dropProfile c s).choices = s.choices := by
  simp [dropProfile]
@[simp] theorem dropProfile_pending (c : ProfileContent) (s : State) : (dropProfile c s).pending = s.pending := by
  simp [dropProfile]
@[simp] theorem dropProfile_run_runState (c : ProfileContent) (s : State) : (dropProfile c s).run.runState = s.run.runState := by
  simp [dropProfile]
@[simp] theorem dropProfile_run_params (c : ProfileContent) (s : State) : (dropProfile c s).run.params = s.run.params := by
  simp [dropProfile]
@[simp] theorem dropProfile_run_runNumber (c : ProfileContent) (s : State) : (dropProfile c s).run.runNumber = s.run.runNumber := by
  simp [dropProfile]
@[simp] theorem dropProfile_run_startTime (c : ProfileContent) (s : State) : (dropProfile c s).run.startTime = s.run.startTime := by
  simp [dropProfile]
@[simp] theorem dropProfile_run_timebase (c : ProfileContent) (s : State) : (dropProfile c s).run.timebase = s.run.timebase := by
  simp [dropProfile]
@[simp] theorem dropProfile_run_paramsSet (c : ProfileContent) (s : State) : (dropProfile c s).run.paramsSet = s.run.paramsSet := by
  simp [dropProfile]
@[simp] theorem dropProfile_queue_linkUp (c : ProfileContent) (s : State) : (dropProfile c s).queue.linkUp = s.queue.linkUp := by
  simp [dropProfile]
@[simp] theorem dropProfile_queue_floor (c : ProfileContent) (s : State) : (dropProfile c s).queue.floor = s.queue.floor := by
  simp [dropProfile]
@[simp] theorem dropProfile_queue_sending (c : ProfileContent) (s : State) : (dropProfile c s).queue.sending = s.queue.sending := by
  simp [dropProfile]
@[simp] theorem dropProfile_queue_responseClaim (c : ProfileContent) (s : State) : (dropProfile c s).queue.responseClaim = s.queue.responseClaim := by
  simp [dropProfile]

@[simp] theorem tryForms_faults_headLoss (c : ProfileContent) (fs : List ProfileForm) (s : State) : (tryForms c fs s).faults.headLoss = s.faults.headLoss := by
  induction fs with
  | nil => simp [tryForms]
  | cons f rest ih => unfold tryForms; split
                      · rfl
                      · exact ih
@[simp] theorem tryForms_faults_linkLoss (c : ProfileContent) (fs : List ProfileForm) (s : State) : (tryForms c fs s).faults.linkLoss = s.faults.linkLoss := by
  induction fs with
  | nil => simp [tryForms]
  | cons f rest ih => unfold tryForms; split
                      · rfl
                      · exact ih
@[simp] theorem tryForms_ports (c : ProfileContent) (fs : List ProfileForm) (s : State) : (tryForms c fs s).ports = s.ports := by
  induction fs with
  | nil => simp [tryForms]
  | cons f rest ih => unfold tryForms; split
                      · rfl
                      · exact ih
@[simp] theorem tryForms_correctors (c : ProfileContent) (fs : List ProfileForm) (s : State) : (tryForms c fs s).correctors = s.correctors := by
  induction fs with
  | nil => simp [tryForms]
  | cons f rest ih => unfold tryForms; split
                      · rfl
                      · exact ih
@[simp] theorem tryForms_odo (c : ProfileContent) (fs : List ProfileForm) (s : State) : (tryForms c fs s).odo = s.odo := by
  induction fs with
  | nil => simp [tryForms]
  | cons f rest ih => unfold tryForms; split
                      · rfl
                      · exact ih
@[simp] theorem tryForms_route (c : ProfileContent) (fs : List ProfileForm) (s : State) : (tryForms c fs s).route = s.route := by
  induction fs with
  | nil => simp [tryForms]
  | cons f rest ih => unfold tryForms; split
                      · rfl
                      · exact ih
@[simp] theorem tryForms_assembler (c : ProfileContent) (fs : List ProfileForm) (s : State) : (tryForms c fs s).assembler = s.assembler := by
  induction fs with
  | nil => simp [tryForms]
  | cons f rest ih => unfold tryForms; split
                      · rfl
                      · exact ih
@[simp] theorem tryForms_comparator (c : ProfileContent) (fs : List ProfileForm) (s : State) : (tryForms c fs s).comparator = s.comparator := by
  induction fs with
  | nil => simp [tryForms]
  | cons f rest ih => unfold tryForms; split
                      · rfl
                      · exact ih
@[simp] theorem tryForms_mgmt (c : ProfileContent) (fs : List ProfileForm) (s : State) : (tryForms c fs s).mgmt = s.mgmt := by
  induction fs with
  | nil => simp [tryForms]
  | cons f rest ih => unfold tryForms; split
                      · rfl
                      · exact ih
@[simp] theorem tryForms_choices (c : ProfileContent) (fs : List ProfileForm) (s : State) : (tryForms c fs s).choices = s.choices := by
  induction fs with
  | nil => simp [tryForms]
  | cons f rest ih => unfold tryForms; split
                      · rfl
                      · exact ih
@[simp] theorem tryForms_pending (c : ProfileContent) (fs : List ProfileForm) (s : State) : (tryForms c fs s).pending = s.pending := by
  induction fs with
  | nil => simp [tryForms]
  | cons f rest ih => unfold tryForms; split
                      · rfl
                      · exact ih
@[simp] theorem tryForms_run_runState (c : ProfileContent) (fs : List ProfileForm) (s : State) : (tryForms c fs s).run.runState = s.run.runState := by
  induction fs with
  | nil => simp [tryForms]
  | cons f rest ih => unfold tryForms; split
                      · rfl
                      · exact ih
@[simp] theorem tryForms_run_params (c : ProfileContent) (fs : List ProfileForm) (s : State) : (tryForms c fs s).run.params = s.run.params := by
  induction fs with
  | nil => simp [tryForms]
  | cons f rest ih => unfold tryForms; split
                      · rfl
                      · exact ih
@[simp] theorem tryForms_run_runNumber (c : ProfileContent) (fs : List ProfileForm) (s : State) : (tryForms c fs s).run.runNumber = s.run.runNumber := by
  induction fs with
  | nil => simp [tryForms]
  | cons f rest ih => unfold tryForms; split
                      · rfl
                      · exact ih
@[simp] theorem tryForms_run_startTime (c : ProfileContent) (fs : List ProfileForm) (s : State) : (tryForms c fs s).run.startTime = s.run.startTime := by
  induction fs with
  | nil => simp [tryForms]
  | cons f rest ih => unfold tryForms; split
                      · rfl
                      · exact ih
@[simp] theorem tryForms_run_timebase (c : ProfileContent) (fs : List ProfileForm) (s : State) : (tryForms c fs s).run.timebase = s.run.timebase := by
  induction fs with
  | nil => simp [tryForms]
  | cons f rest ih => unfold tryForms; split
                      · rfl
                      · exact ih
@[simp] theorem tryForms_run_paramsSet (c : ProfileContent) (fs : List ProfileForm) (s : State) : (tryForms c fs s).run.paramsSet = s.run.paramsSet := by
  induction fs with
  | nil => simp [tryForms]
  | cons f rest ih => unfold tryForms; split
                      · rfl
                      · exact ih
@[simp] theorem tryForms_queue_linkUp (c : ProfileContent) (fs : List ProfileForm) (s : State) : (tryForms c fs s).queue.linkUp = s.queue.linkUp := by
  induction fs with
  | nil => simp [tryForms]
  | cons f rest ih => unfold tryForms; split
                      · rfl
                      · exact ih
@[simp] theorem tryForms_queue_floor (c : ProfileContent) (fs : List ProfileForm) (s : State) : (tryForms c fs s).queue.floor = s.queue.floor := by
  induction fs with
  | nil => simp [tryForms]
  | cons f rest ih => unfold tryForms; split
                      · rfl
                      · exact ih
@[simp] theorem tryForms_queue_sending (c : ProfileContent) (fs : List ProfileForm) (s : State) : (tryForms c fs s).queue.sending = s.queue.sending := by
  induction fs with
  | nil => simp [tryForms]
  | cons f rest ih => unfold tryForms; split
                      · rfl
                      · exact ih
@[simp] theorem tryForms_queue_responseClaim (c : ProfileContent) (fs : List ProfileForm) (s : State) : (tryForms c fs s).queue.responseClaim = s.queue.responseClaim := by
  induction fs with
  | nil => simp [tryForms]
  | cons f rest ih => unfold tryForms; split
                      · rfl
                      · exact ih

@[simp] theorem offerProfile_faults_headLoss (c : ProfileContent) (s : State) : (offerProfile c s).faults.headLoss = s.faults.headLoss := by
  simp [offerProfile]
@[simp] theorem offerProfile_faults_linkLoss (c : ProfileContent) (s : State) : (offerProfile c s).faults.linkLoss = s.faults.linkLoss := by
  simp [offerProfile]
@[simp] theorem offerProfile_ports (c : ProfileContent) (s : State) : (offerProfile c s).ports = s.ports := by
  simp [offerProfile]
@[simp] theorem offerProfile_correctors (c : ProfileContent) (s : State) : (offerProfile c s).correctors = s.correctors := by
  simp [offerProfile]
@[simp] theorem offerProfile_odo (c : ProfileContent) (s : State) : (offerProfile c s).odo = s.odo := by
  simp [offerProfile]
@[simp] theorem offerProfile_route (c : ProfileContent) (s : State) : (offerProfile c s).route = s.route := by
  simp [offerProfile]
@[simp] theorem offerProfile_assembler (c : ProfileContent) (s : State) : (offerProfile c s).assembler = s.assembler := by
  simp [offerProfile]
@[simp] theorem offerProfile_comparator (c : ProfileContent) (s : State) : (offerProfile c s).comparator = s.comparator := by
  simp [offerProfile]
@[simp] theorem offerProfile_mgmt (c : ProfileContent) (s : State) : (offerProfile c s).mgmt = s.mgmt := by
  simp [offerProfile]
@[simp] theorem offerProfile_choices (c : ProfileContent) (s : State) : (offerProfile c s).choices = s.choices := by
  simp [offerProfile]
@[simp] theorem offerProfile_pending (c : ProfileContent) (s : State) : (offerProfile c s).pending = s.pending := by
  simp [offerProfile]
@[simp] theorem offerProfile_run_runState (c : ProfileContent) (s : State) : (offerProfile c s).run.runState = s.run.runState := by
  simp [offerProfile]
@[simp] theorem offerProfile_run_params (c : ProfileContent) (s : State) : (offerProfile c s).run.params = s.run.params := by
  simp [offerProfile]
@[simp] theorem offerProfile_run_runNumber (c : ProfileContent) (s : State) : (offerProfile c s).run.runNumber = s.run.runNumber := by
  simp [offerProfile]
@[simp] theorem offerProfile_run_startTime (c : ProfileContent) (s : State) : (offerProfile c s).run.startTime = s.run.startTime := by
  simp [offerProfile]
@[simp] theorem offerProfile_run_timebase (c : ProfileContent) (s : State) : (offerProfile c s).run.timebase = s.run.timebase := by
  simp [offerProfile]
@[simp] theorem offerProfile_run_paramsSet (c : ProfileContent) (s : State) : (offerProfile c s).run.paramsSet = s.run.paramsSet := by
  simp [offerProfile]
@[simp] theorem offerProfile_queue_linkUp (c : ProfileContent) (s : State) : (offerProfile c s).queue.linkUp = s.queue.linkUp := by
  simp [offerProfile]
@[simp] theorem offerProfile_queue_floor (c : ProfileContent) (s : State) : (offerProfile c s).queue.floor = s.queue.floor := by
  simp [offerProfile]
@[simp] theorem offerProfile_queue_sending (c : ProfileContent) (s : State) : (offerProfile c s).queue.sending = s.queue.sending := by
  simp [offerProfile]
@[simp] theorem offerProfile_queue_responseClaim (c : ProfileContent) (s : State) : (offerProfile c s).queue.responseClaim = s.queue.responseClaim := by
  simp [offerProfile]

@[simp] theorem offerPoints_ports (sl : PassedSlice) (ps : List CorrectedPoint) (s : State) : (offerPoints sl ps s).ports = s.ports := by
  simp only [offerPoints]; repeat' split
  all_goals rfl
@[simp] theorem offerPoints_correctors (sl : PassedSlice) (ps : List CorrectedPoint) (s : State) : (offerPoints sl ps s).correctors = s.correctors := by
  simp only [offerPoints]; repeat' split
  all_goals rfl
@[simp] theorem offerPoints_odo (sl : PassedSlice) (ps : List CorrectedPoint) (s : State) : (offerPoints sl ps s).odo = s.odo := by
  simp only [offerPoints]; repeat' split
  all_goals rfl
@[simp] theorem offerPoints_route (sl : PassedSlice) (ps : List CorrectedPoint) (s : State) : (offerPoints sl ps s).route = s.route := by
  simp only [offerPoints]; repeat' split
  all_goals rfl
@[simp] theorem offerPoints_assembler (sl : PassedSlice) (ps : List CorrectedPoint) (s : State) : (offerPoints sl ps s).assembler = s.assembler := by
  simp only [offerPoints]; repeat' split
  all_goals rfl
@[simp] theorem offerPoints_comparator (sl : PassedSlice) (ps : List CorrectedPoint) (s : State) : (offerPoints sl ps s).comparator = s.comparator := by
  simp only [offerPoints]; repeat' split
  all_goals rfl
@[simp] theorem offerPoints_mgmt (sl : PassedSlice) (ps : List CorrectedPoint) (s : State) : (offerPoints sl ps s).mgmt = s.mgmt := by
  simp only [offerPoints]; repeat' split
  all_goals rfl
@[simp] theorem offerPoints_choices (sl : PassedSlice) (ps : List CorrectedPoint) (s : State) : (offerPoints sl ps s).choices = s.choices := by
  simp only [offerPoints]; repeat' split
  all_goals rfl
@[simp] theorem offerPoints_pending (sl : PassedSlice) (ps : List CorrectedPoint) (s : State) : (offerPoints sl ps s).pending = s.pending := by
  simp only [offerPoints]; repeat' split
  all_goals rfl
@[simp] theorem offerPoints_run_runState (sl : PassedSlice) (ps : List CorrectedPoint) (s : State) : (offerPoints sl ps s).run.runState = s.run.runState := by
  simp only [offerPoints]; repeat' split
  all_goals rfl
@[simp] theorem offerPoints_run_params (sl : PassedSlice) (ps : List CorrectedPoint) (s : State) : (offerPoints sl ps s).run.params = s.run.params := by
  simp only [offerPoints]; repeat' split
  all_goals rfl
@[simp] theorem offerPoints_run_runNumber (sl : PassedSlice) (ps : List CorrectedPoint) (s : State) : (offerPoints sl ps s).run.runNumber = s.run.runNumber := by
  simp only [offerPoints]; repeat' split
  all_goals rfl
@[simp] theorem offerPoints_run_startTime (sl : PassedSlice) (ps : List CorrectedPoint) (s : State) : (offerPoints sl ps s).run.startTime = s.run.startTime := by
  simp only [offerPoints]; repeat' split
  all_goals rfl
@[simp] theorem offerPoints_run_timebase (sl : PassedSlice) (ps : List CorrectedPoint) (s : State) : (offerPoints sl ps s).run.timebase = s.run.timebase := by
  simp only [offerPoints]; repeat' split
  all_goals rfl
@[simp] theorem offerPoints_run_paramsSet (sl : PassedSlice) (ps : List CorrectedPoint) (s : State) : (offerPoints sl ps s).run.paramsSet = s.run.paramsSet := by
  simp only [offerPoints]; repeat' split
  all_goals rfl
@[simp] theorem offerPoints_queue_linkUp (sl : PassedSlice) (ps : List CorrectedPoint) (s : State) : (offerPoints sl ps s).queue.linkUp = s.queue.linkUp := by
  simp only [offerPoints]; repeat' split
  all_goals rfl
@[simp] theorem offerPoints_queue_floor (sl : PassedSlice) (ps : List CorrectedPoint) (s : State) : (offerPoints sl ps s).queue.floor = s.queue.floor := by
  simp only [offerPoints]; repeat' split
  all_goals rfl
@[simp] theorem offerPoints_queue_sending (sl : PassedSlice) (ps : List CorrectedPoint) (s : State) : (offerPoints sl ps s).queue.sending = s.queue.sending := by
  simp only [offerPoints]; repeat' split
  all_goals rfl
@[simp] theorem offerPoints_queue_responseClaim (sl : PassedSlice) (ps : List CorrectedPoint) (s : State) : (offerPoints sl ps s).queue.responseClaim = s.queue.responseClaim := by
  simp only [offerPoints]; repeat' split
  all_goals rfl
@[simp] theorem offerPoints_faults (sl : PassedSlice) (ps : List CorrectedPoint) (s : State) : (offerPoints sl ps s).faults = s.faults := by
  simp only [offerPoints]; repeat' split
  all_goals rfl
@[simp] theorem offerPoints_queue_level (sl : PassedSlice) (ps : List CorrectedPoint) (s : State) : (offerPoints sl ps s).queue.level = s.queue.level := by
  simp only [offerPoints]; repeat' split
  all_goals rfl
@[simp] theorem offerPoints_queue_control (sl : PassedSlice) (ps : List CorrectedPoint) (s : State) : (offerPoints sl ps s).queue.control = s.queue.control := by
  simp only [offerPoints]; repeat' split
  all_goals rfl
@[simp] theorem offerPoints_queue_holder (sl : PassedSlice) (ps : List CorrectedPoint) (s : State) : (offerPoints sl ps s).queue.holder = s.queue.holder := by
  simp only [offerPoints]; repeat' split
  all_goals rfl

/-! ### A profile taken and a context closed -/

@[simp] theorem offerRuns_faults_headLoss (cp : ClosedProfile) (a : Assessment) (s : State) : ((offerRuns cp a s).1).faults.headLoss = s.faults.headLoss := by
  unfold offerRuns; split <;> simp
@[simp] theorem offerRuns_faults_linkLoss (cp : ClosedProfile) (a : Assessment) (s : State) : ((offerRuns cp a s).1).faults.linkLoss = s.faults.linkLoss := by
  unfold offerRuns; split <;> simp
@[simp] theorem offerRuns_ports (cp : ClosedProfile) (a : Assessment) (s : State) : ((offerRuns cp a s).1).ports = s.ports := by
  unfold offerRuns; split <;> simp
@[simp] theorem offerRuns_correctors (cp : ClosedProfile) (a : Assessment) (s : State) : ((offerRuns cp a s).1).correctors = s.correctors := by
  unfold offerRuns; split <;> simp
@[simp] theorem offerRuns_odo (cp : ClosedProfile) (a : Assessment) (s : State) : ((offerRuns cp a s).1).odo = s.odo := by
  unfold offerRuns; split <;> simp
@[simp] theorem offerRuns_route (cp : ClosedProfile) (a : Assessment) (s : State) : ((offerRuns cp a s).1).route = s.route := by
  unfold offerRuns; split <;> simp
@[simp] theorem offerRuns_assembler (cp : ClosedProfile) (a : Assessment) (s : State) : ((offerRuns cp a s).1).assembler = s.assembler := by
  unfold offerRuns; split <;> simp
@[simp] theorem offerRuns_comparator (cp : ClosedProfile) (a : Assessment) (s : State) : ((offerRuns cp a s).1).comparator = s.comparator := by
  unfold offerRuns; split <;> simp
@[simp] theorem offerRuns_mgmt (cp : ClosedProfile) (a : Assessment) (s : State) : ((offerRuns cp a s).1).mgmt = s.mgmt := by
  unfold offerRuns; split <;> simp
@[simp] theorem offerRuns_choices (cp : ClosedProfile) (a : Assessment) (s : State) : ((offerRuns cp a s).1).choices = s.choices := by
  unfold offerRuns; split <;> simp
@[simp] theorem offerRuns_pending (cp : ClosedProfile) (a : Assessment) (s : State) : ((offerRuns cp a s).1).pending = s.pending := by
  unfold offerRuns; split <;> simp
@[simp] theorem offerRuns_run_runState (cp : ClosedProfile) (a : Assessment) (s : State) : ((offerRuns cp a s).1).run.runState = s.run.runState := by
  unfold offerRuns; split <;> simp
@[simp] theorem offerRuns_run_params (cp : ClosedProfile) (a : Assessment) (s : State) : ((offerRuns cp a s).1).run.params = s.run.params := by
  unfold offerRuns; split <;> simp
@[simp] theorem offerRuns_run_runNumber (cp : ClosedProfile) (a : Assessment) (s : State) : ((offerRuns cp a s).1).run.runNumber = s.run.runNumber := by
  unfold offerRuns; split <;> simp
@[simp] theorem offerRuns_run_startTime (cp : ClosedProfile) (a : Assessment) (s : State) : ((offerRuns cp a s).1).run.startTime = s.run.startTime := by
  unfold offerRuns; split <;> simp
@[simp] theorem offerRuns_run_timebase (cp : ClosedProfile) (a : Assessment) (s : State) : ((offerRuns cp a s).1).run.timebase = s.run.timebase := by
  unfold offerRuns; split <;> simp
@[simp] theorem offerRuns_run_paramsSet (cp : ClosedProfile) (a : Assessment) (s : State) : ((offerRuns cp a s).1).run.paramsSet = s.run.paramsSet := by
  unfold offerRuns; split <;> simp
@[simp] theorem offerRuns_queue_linkUp (cp : ClosedProfile) (a : Assessment) (s : State) : ((offerRuns cp a s).1).queue.linkUp = s.queue.linkUp := by
  unfold offerRuns; split <;> simp
@[simp] theorem offerRuns_queue_floor (cp : ClosedProfile) (a : Assessment) (s : State) : ((offerRuns cp a s).1).queue.floor = s.queue.floor := by
  unfold offerRuns; split <;> simp
@[simp] theorem offerRuns_queue_sending (cp : ClosedProfile) (a : Assessment) (s : State) : ((offerRuns cp a s).1).queue.sending = s.queue.sending := by
  unfold offerRuns; split <;> simp
@[simp] theorem offerRuns_queue_responseClaim (cp : ClosedProfile) (a : Assessment) (s : State) : ((offerRuns cp a s).1).queue.responseClaim = s.queue.responseClaim := by
  unfold offerRuns; split <;> simp

@[simp] theorem assess_faults_headLoss (cp : ClosedProfile) (s : State) : ((assess cp s).1).faults.headLoss = s.faults.headLoss := by
  simp only [assess]; split <;> simp
@[simp] theorem assess_faults_linkLoss (cp : ClosedProfile) (s : State) : ((assess cp s).1).faults.linkLoss = s.faults.linkLoss := by
  simp only [assess]; split <;> simp
@[simp] theorem assess_ports (cp : ClosedProfile) (s : State) : ((assess cp s).1).ports = s.ports := by
  simp only [assess]; split <;> simp
@[simp] theorem assess_correctors (cp : ClosedProfile) (s : State) : ((assess cp s).1).correctors = s.correctors := by
  simp only [assess]; split <;> simp
@[simp] theorem assess_odo (cp : ClosedProfile) (s : State) : ((assess cp s).1).odo = s.odo := by
  simp only [assess]; split <;> simp
@[simp] theorem assess_route (cp : ClosedProfile) (s : State) : ((assess cp s).1).route = s.route := by
  simp only [assess]; split <;> simp
@[simp] theorem assess_assembler (cp : ClosedProfile) (s : State) : ((assess cp s).1).assembler = s.assembler := by
  simp only [assess]; split <;> simp
@[simp] theorem assess_mgmt (cp : ClosedProfile) (s : State) : ((assess cp s).1).mgmt = s.mgmt := by
  simp only [assess]; split <;> simp
@[simp] theorem assess_choices (cp : ClosedProfile) (s : State) : ((assess cp s).1).choices = s.choices := by
  simp only [assess]; split <;> simp
@[simp] theorem assess_pending (cp : ClosedProfile) (s : State) : ((assess cp s).1).pending = s.pending := by
  simp only [assess]; split <;> simp
@[simp] theorem assess_run_runState (cp : ClosedProfile) (s : State) : ((assess cp s).1).run.runState = s.run.runState := by
  simp only [assess]; split <;> simp
@[simp] theorem assess_run_params (cp : ClosedProfile) (s : State) : ((assess cp s).1).run.params = s.run.params := by
  simp only [assess]; split <;> simp
@[simp] theorem assess_run_runNumber (cp : ClosedProfile) (s : State) : ((assess cp s).1).run.runNumber = s.run.runNumber := by
  simp only [assess]; split <;> simp
@[simp] theorem assess_run_startTime (cp : ClosedProfile) (s : State) : ((assess cp s).1).run.startTime = s.run.startTime := by
  simp only [assess]; split <;> simp
@[simp] theorem assess_run_timebase (cp : ClosedProfile) (s : State) : ((assess cp s).1).run.timebase = s.run.timebase := by
  simp only [assess]; split <;> simp
@[simp] theorem assess_run_paramsSet (cp : ClosedProfile) (s : State) : ((assess cp s).1).run.paramsSet = s.run.paramsSet := by
  simp only [assess]; split <;> simp
@[simp] theorem assess_queue_linkUp (cp : ClosedProfile) (s : State) : ((assess cp s).1).queue.linkUp = s.queue.linkUp := by
  simp only [assess]; split <;> simp
@[simp] theorem assess_queue_floor (cp : ClosedProfile) (s : State) : ((assess cp s).1).queue.floor = s.queue.floor := by
  simp only [assess]; split <;> simp
@[simp] theorem assess_queue_sending (cp : ClosedProfile) (s : State) : ((assess cp s).1).queue.sending = s.queue.sending := by
  simp only [assess]; split <;> simp
@[simp] theorem assess_queue_responseClaim (cp : ClosedProfile) (s : State) : ((assess cp s).1).queue.responseClaim = s.queue.responseClaim := by
  simp only [assess]; split <;> simp

@[simp] theorem closeContext_faults_headLoss (reason : Option CloseReason) (c : Context) (s : State) : ((closeContext reason c s).1).faults.headLoss = s.faults.headLoss := by
  simp [closeContext]
@[simp] theorem closeContext_faults_linkLoss (reason : Option CloseReason) (c : Context) (s : State) : ((closeContext reason c s).1).faults.linkLoss = s.faults.linkLoss := by
  simp [closeContext]
@[simp] theorem closeContext_ports (reason : Option CloseReason) (c : Context) (s : State) : ((closeContext reason c s).1).ports = s.ports := by
  simp [closeContext]
@[simp] theorem closeContext_correctors (reason : Option CloseReason) (c : Context) (s : State) : ((closeContext reason c s).1).correctors = s.correctors := by
  simp [closeContext]
@[simp] theorem closeContext_odo (reason : Option CloseReason) (c : Context) (s : State) : ((closeContext reason c s).1).odo = s.odo := by
  simp [closeContext]
@[simp] theorem closeContext_route (reason : Option CloseReason) (c : Context) (s : State) : ((closeContext reason c s).1).route = s.route := by
  simp [closeContext]
@[simp] theorem closeContext_mgmt (reason : Option CloseReason) (c : Context) (s : State) : ((closeContext reason c s).1).mgmt = s.mgmt := by
  simp [closeContext]
@[simp] theorem closeContext_choices (reason : Option CloseReason) (c : Context) (s : State) : ((closeContext reason c s).1).choices = s.choices := by
  simp [closeContext]
@[simp] theorem closeContext_pending (reason : Option CloseReason) (c : Context) (s : State) : ((closeContext reason c s).1).pending = s.pending := by
  simp [closeContext]
@[simp] theorem closeContext_run_runState (reason : Option CloseReason) (c : Context) (s : State) : ((closeContext reason c s).1).run.runState = s.run.runState := by
  simp [closeContext]
@[simp] theorem closeContext_run_params (reason : Option CloseReason) (c : Context) (s : State) : ((closeContext reason c s).1).run.params = s.run.params := by
  simp [closeContext]
@[simp] theorem closeContext_run_runNumber (reason : Option CloseReason) (c : Context) (s : State) : ((closeContext reason c s).1).run.runNumber = s.run.runNumber := by
  simp [closeContext]
@[simp] theorem closeContext_run_startTime (reason : Option CloseReason) (c : Context) (s : State) : ((closeContext reason c s).1).run.startTime = s.run.startTime := by
  simp [closeContext]
@[simp] theorem closeContext_run_timebase (reason : Option CloseReason) (c : Context) (s : State) : ((closeContext reason c s).1).run.timebase = s.run.timebase := by
  simp [closeContext]
@[simp] theorem closeContext_run_paramsSet (reason : Option CloseReason) (c : Context) (s : State) : ((closeContext reason c s).1).run.paramsSet = s.run.paramsSet := by
  simp [closeContext]
@[simp] theorem closeContext_queue_linkUp (reason : Option CloseReason) (c : Context) (s : State) : ((closeContext reason c s).1).queue.linkUp = s.queue.linkUp := by
  simp [closeContext]
@[simp] theorem closeContext_queue_floor (reason : Option CloseReason) (c : Context) (s : State) : ((closeContext reason c s).1).queue.floor = s.queue.floor := by
  simp [closeContext]
@[simp] theorem closeContext_queue_sending (reason : Option CloseReason) (c : Context) (s : State) : ((closeContext reason c s).1).queue.sending = s.queue.sending := by
  simp [closeContext]
@[simp] theorem closeContext_queue_responseClaim (reason : Option CloseReason) (c : Context) (s : State) : ((closeContext reason c s).1).queue.responseClaim = s.queue.responseClaim := by
  simp [closeContext]

@[simp] theorem closeContext_assembler (reason : Option CloseReason) (c : Context) (s : State) :
    (closeContext reason c s).1.assembler =
      { s.assembler with
        sequence := wrap32 (s.assembler.sequence + 1)
        closedLine := c.station + 1
        contexts := s.assembler.contexts.filter fun d => d.station != c.station } := by
  simp [closeContext]

@[simp] theorem closeAll_faults_headLoss (l : List (Context × Option CloseReason)) (s : State) : ((closeAll l s).1).faults.headLoss = s.faults.headLoss := by
  induction l generalizing s with
  | nil => rfl
  | cons c rest ih => simp [closeAll, ih]
@[simp] theorem closeAll_faults_linkLoss (l : List (Context × Option CloseReason)) (s : State) : ((closeAll l s).1).faults.linkLoss = s.faults.linkLoss := by
  induction l generalizing s with
  | nil => rfl
  | cons c rest ih => simp [closeAll, ih]
@[simp] theorem closeAll_ports (l : List (Context × Option CloseReason)) (s : State) : ((closeAll l s).1).ports = s.ports := by
  induction l generalizing s with
  | nil => rfl
  | cons c rest ih => simp [closeAll, ih]
@[simp] theorem closeAll_correctors (l : List (Context × Option CloseReason)) (s : State) : ((closeAll l s).1).correctors = s.correctors := by
  induction l generalizing s with
  | nil => rfl
  | cons c rest ih => simp [closeAll, ih]
@[simp] theorem closeAll_odo (l : List (Context × Option CloseReason)) (s : State) : ((closeAll l s).1).odo = s.odo := by
  induction l generalizing s with
  | nil => rfl
  | cons c rest ih => simp [closeAll, ih]
@[simp] theorem closeAll_route (l : List (Context × Option CloseReason)) (s : State) : ((closeAll l s).1).route = s.route := by
  induction l generalizing s with
  | nil => rfl
  | cons c rest ih => simp [closeAll, ih]
@[simp] theorem closeAll_mgmt (l : List (Context × Option CloseReason)) (s : State) : ((closeAll l s).1).mgmt = s.mgmt := by
  induction l generalizing s with
  | nil => rfl
  | cons c rest ih => simp [closeAll, ih]
@[simp] theorem closeAll_choices (l : List (Context × Option CloseReason)) (s : State) : ((closeAll l s).1).choices = s.choices := by
  induction l generalizing s with
  | nil => rfl
  | cons c rest ih => simp [closeAll, ih]
@[simp] theorem closeAll_pending (l : List (Context × Option CloseReason)) (s : State) : ((closeAll l s).1).pending = s.pending := by
  induction l generalizing s with
  | nil => rfl
  | cons c rest ih => simp [closeAll, ih]
@[simp] theorem closeAll_run_runState (l : List (Context × Option CloseReason)) (s : State) : ((closeAll l s).1).run.runState = s.run.runState := by
  induction l generalizing s with
  | nil => rfl
  | cons c rest ih => simp [closeAll, ih]
@[simp] theorem closeAll_run_params (l : List (Context × Option CloseReason)) (s : State) : ((closeAll l s).1).run.params = s.run.params := by
  induction l generalizing s with
  | nil => rfl
  | cons c rest ih => simp [closeAll, ih]
@[simp] theorem closeAll_run_runNumber (l : List (Context × Option CloseReason)) (s : State) : ((closeAll l s).1).run.runNumber = s.run.runNumber := by
  induction l generalizing s with
  | nil => rfl
  | cons c rest ih => simp [closeAll, ih]
@[simp] theorem closeAll_run_startTime (l : List (Context × Option CloseReason)) (s : State) : ((closeAll l s).1).run.startTime = s.run.startTime := by
  induction l generalizing s with
  | nil => rfl
  | cons c rest ih => simp [closeAll, ih]
@[simp] theorem closeAll_run_timebase (l : List (Context × Option CloseReason)) (s : State) : ((closeAll l s).1).run.timebase = s.run.timebase := by
  induction l generalizing s with
  | nil => rfl
  | cons c rest ih => simp [closeAll, ih]
@[simp] theorem closeAll_run_paramsSet (l : List (Context × Option CloseReason)) (s : State) : ((closeAll l s).1).run.paramsSet = s.run.paramsSet := by
  induction l generalizing s with
  | nil => rfl
  | cons c rest ih => simp [closeAll, ih]
@[simp] theorem closeAll_queue_linkUp (l : List (Context × Option CloseReason)) (s : State) : ((closeAll l s).1).queue.linkUp = s.queue.linkUp := by
  induction l generalizing s with
  | nil => rfl
  | cons c rest ih => simp [closeAll, ih]
@[simp] theorem closeAll_queue_floor (l : List (Context × Option CloseReason)) (s : State) : ((closeAll l s).1).queue.floor = s.queue.floor := by
  induction l generalizing s with
  | nil => rfl
  | cons c rest ih => simp [closeAll, ih]
@[simp] theorem closeAll_queue_sending (l : List (Context × Option CloseReason)) (s : State) : ((closeAll l s).1).queue.sending = s.queue.sending := by
  induction l generalizing s with
  | nil => rfl
  | cons c rest ih => simp [closeAll, ih]
@[simp] theorem closeAll_queue_responseClaim (l : List (Context × Option CloseReason)) (s : State) : ((closeAll l s).1).queue.responseClaim = s.queue.responseClaim := by
  induction l generalizing s with
  | nil => rfl
  | cons c rest ih => simp [closeAll, ih]
@[simp] theorem closeAll_assembler_lastStation (l : List (Context × Option CloseReason)) (s : State) : ((closeAll l s).1).assembler.lastStation = s.assembler.lastStation := by
  induction l generalizing s with
  | nil => rfl
  | cons c rest ih => simp [closeAll, ih]
@[simp] theorem closeAll_assembler_discards (l : List (Context × Option CloseReason)) (s : State) : ((closeAll l s).1).assembler.discards = s.assembler.discards := by
  induction l generalizing s with
  | nil => rfl
  | cons c rest ih => simp [closeAll, ih]

@[simp] theorem closeEvery_faults_headLoss (reason : CloseReason) (s : State) : ((closeEvery reason s).1).faults.headLoss = s.faults.headLoss := by
  simp [closeEvery]
@[simp] theorem closeEvery_faults_linkLoss (reason : CloseReason) (s : State) : ((closeEvery reason s).1).faults.linkLoss = s.faults.linkLoss := by
  simp [closeEvery]
@[simp] theorem closeEvery_ports (reason : CloseReason) (s : State) : ((closeEvery reason s).1).ports = s.ports := by
  simp [closeEvery]
@[simp] theorem closeEvery_correctors (reason : CloseReason) (s : State) : ((closeEvery reason s).1).correctors = s.correctors := by
  simp [closeEvery]
@[simp] theorem closeEvery_odo (reason : CloseReason) (s : State) : ((closeEvery reason s).1).odo = s.odo := by
  simp [closeEvery]
@[simp] theorem closeEvery_route (reason : CloseReason) (s : State) : ((closeEvery reason s).1).route = s.route := by
  simp [closeEvery]
@[simp] theorem closeEvery_mgmt (reason : CloseReason) (s : State) : ((closeEvery reason s).1).mgmt = s.mgmt := by
  simp [closeEvery]
@[simp] theorem closeEvery_choices (reason : CloseReason) (s : State) : ((closeEvery reason s).1).choices = s.choices := by
  simp [closeEvery]
@[simp] theorem closeEvery_pending (reason : CloseReason) (s : State) : ((closeEvery reason s).1).pending = s.pending := by
  simp [closeEvery]
@[simp] theorem closeEvery_run_runState (reason : CloseReason) (s : State) : ((closeEvery reason s).1).run.runState = s.run.runState := by
  simp [closeEvery]
@[simp] theorem closeEvery_run_params (reason : CloseReason) (s : State) : ((closeEvery reason s).1).run.params = s.run.params := by
  simp [closeEvery]
@[simp] theorem closeEvery_run_runNumber (reason : CloseReason) (s : State) : ((closeEvery reason s).1).run.runNumber = s.run.runNumber := by
  simp [closeEvery]
@[simp] theorem closeEvery_run_startTime (reason : CloseReason) (s : State) : ((closeEvery reason s).1).run.startTime = s.run.startTime := by
  simp [closeEvery]
@[simp] theorem closeEvery_run_timebase (reason : CloseReason) (s : State) : ((closeEvery reason s).1).run.timebase = s.run.timebase := by
  simp [closeEvery]
@[simp] theorem closeEvery_run_paramsSet (reason : CloseReason) (s : State) : ((closeEvery reason s).1).run.paramsSet = s.run.paramsSet := by
  simp [closeEvery]
@[simp] theorem closeEvery_queue_linkUp (reason : CloseReason) (s : State) : ((closeEvery reason s).1).queue.linkUp = s.queue.linkUp := by
  simp [closeEvery]
@[simp] theorem closeEvery_queue_floor (reason : CloseReason) (s : State) : ((closeEvery reason s).1).queue.floor = s.queue.floor := by
  simp [closeEvery]
@[simp] theorem closeEvery_queue_sending (reason : CloseReason) (s : State) : ((closeEvery reason s).1).queue.sending = s.queue.sending := by
  simp [closeEvery]
@[simp] theorem closeEvery_queue_responseClaim (reason : CloseReason) (s : State) : ((closeEvery reason s).1).queue.responseClaim = s.queue.responseClaim := by
  simp [closeEvery]
@[simp] theorem closeEvery_assembler_lastStation (reason : CloseReason) (s : State) : ((closeEvery reason s).1).assembler.lastStation = s.assembler.lastStation := by
  simp [closeEvery]
@[simp] theorem closeEvery_assembler_discards (reason : CloseReason) (s : State) : ((closeEvery reason s).1).assembler.discards = s.assembler.discards := by
  simp [closeEvery]

@[simp] theorem progressTest_faults_headLoss (s : State) : ((progressTest s).1).faults.headLoss = s.faults.headLoss := by
  simp [progressTest]
@[simp] theorem progressTest_faults_linkLoss (s : State) : ((progressTest s).1).faults.linkLoss = s.faults.linkLoss := by
  simp [progressTest]
@[simp] theorem progressTest_ports (s : State) : ((progressTest s).1).ports = s.ports := by
  simp [progressTest]
@[simp] theorem progressTest_correctors (s : State) : ((progressTest s).1).correctors = s.correctors := by
  simp [progressTest]
@[simp] theorem progressTest_odo (s : State) : ((progressTest s).1).odo = s.odo := by
  simp [progressTest]
@[simp] theorem progressTest_route (s : State) : ((progressTest s).1).route = s.route := by
  simp [progressTest]
@[simp] theorem progressTest_mgmt (s : State) : ((progressTest s).1).mgmt = s.mgmt := by
  simp [progressTest]
@[simp] theorem progressTest_choices (s : State) : ((progressTest s).1).choices = s.choices := by
  simp [progressTest]
@[simp] theorem progressTest_pending (s : State) : ((progressTest s).1).pending = s.pending := by
  simp [progressTest]
@[simp] theorem progressTest_run_runState (s : State) : ((progressTest s).1).run.runState = s.run.runState := by
  simp [progressTest]
@[simp] theorem progressTest_run_params (s : State) : ((progressTest s).1).run.params = s.run.params := by
  simp [progressTest]
@[simp] theorem progressTest_run_runNumber (s : State) : ((progressTest s).1).run.runNumber = s.run.runNumber := by
  simp [progressTest]
@[simp] theorem progressTest_run_startTime (s : State) : ((progressTest s).1).run.startTime = s.run.startTime := by
  simp [progressTest]
@[simp] theorem progressTest_run_timebase (s : State) : ((progressTest s).1).run.timebase = s.run.timebase := by
  simp [progressTest]
@[simp] theorem progressTest_run_paramsSet (s : State) : ((progressTest s).1).run.paramsSet = s.run.paramsSet := by
  simp [progressTest]
@[simp] theorem progressTest_queue_linkUp (s : State) : ((progressTest s).1).queue.linkUp = s.queue.linkUp := by
  simp [progressTest]
@[simp] theorem progressTest_queue_floor (s : State) : ((progressTest s).1).queue.floor = s.queue.floor := by
  simp [progressTest]
@[simp] theorem progressTest_queue_sending (s : State) : ((progressTest s).1).queue.sending = s.queue.sending := by
  simp [progressTest]
@[simp] theorem progressTest_queue_responseClaim (s : State) : ((progressTest s).1).queue.responseClaim = s.queue.responseClaim := by
  simp [progressTest]
@[simp] theorem progressTest_assembler_lastStation (s : State) : ((progressTest s).1).assembler.lastStation = s.assembler.lastStation := by
  simp [progressTest]
@[simp] theorem progressTest_assembler_discards (s : State) : ((progressTest s).1).assembler.discards = s.assembler.discards := by
  simp [progressTest]

@[simp] theorem timeOutClosures_faults_headLoss (j : Nat) (s : State) : ((timeOutClosures j s).1).faults.headLoss = s.faults.headLoss := by
  simp [timeOutClosures]
@[simp] theorem timeOutClosures_faults_linkLoss (j : Nat) (s : State) : ((timeOutClosures j s).1).faults.linkLoss = s.faults.linkLoss := by
  simp [timeOutClosures]
@[simp] theorem timeOutClosures_ports (j : Nat) (s : State) : ((timeOutClosures j s).1).ports = s.ports := by
  simp [timeOutClosures]
@[simp] theorem timeOutClosures_correctors (j : Nat) (s : State) : ((timeOutClosures j s).1).correctors = s.correctors := by
  simp [timeOutClosures]
@[simp] theorem timeOutClosures_odo (j : Nat) (s : State) : ((timeOutClosures j s).1).odo = s.odo := by
  simp [timeOutClosures]
@[simp] theorem timeOutClosures_route (j : Nat) (s : State) : ((timeOutClosures j s).1).route = s.route := by
  simp [timeOutClosures]
@[simp] theorem timeOutClosures_mgmt (j : Nat) (s : State) : ((timeOutClosures j s).1).mgmt = s.mgmt := by
  simp [timeOutClosures]
@[simp] theorem timeOutClosures_choices (j : Nat) (s : State) : ((timeOutClosures j s).1).choices = s.choices := by
  simp [timeOutClosures]
@[simp] theorem timeOutClosures_pending (j : Nat) (s : State) : ((timeOutClosures j s).1).pending = s.pending := by
  simp [timeOutClosures]
@[simp] theorem timeOutClosures_run_runState (j : Nat) (s : State) : ((timeOutClosures j s).1).run.runState = s.run.runState := by
  simp [timeOutClosures]
@[simp] theorem timeOutClosures_run_params (j : Nat) (s : State) : ((timeOutClosures j s).1).run.params = s.run.params := by
  simp [timeOutClosures]
@[simp] theorem timeOutClosures_run_runNumber (j : Nat) (s : State) : ((timeOutClosures j s).1).run.runNumber = s.run.runNumber := by
  simp [timeOutClosures]
@[simp] theorem timeOutClosures_run_startTime (j : Nat) (s : State) : ((timeOutClosures j s).1).run.startTime = s.run.startTime := by
  simp [timeOutClosures]
@[simp] theorem timeOutClosures_run_timebase (j : Nat) (s : State) : ((timeOutClosures j s).1).run.timebase = s.run.timebase := by
  simp [timeOutClosures]
@[simp] theorem timeOutClosures_run_paramsSet (j : Nat) (s : State) : ((timeOutClosures j s).1).run.paramsSet = s.run.paramsSet := by
  simp [timeOutClosures]
@[simp] theorem timeOutClosures_queue_linkUp (j : Nat) (s : State) : ((timeOutClosures j s).1).queue.linkUp = s.queue.linkUp := by
  simp [timeOutClosures]
@[simp] theorem timeOutClosures_queue_floor (j : Nat) (s : State) : ((timeOutClosures j s).1).queue.floor = s.queue.floor := by
  simp [timeOutClosures]
@[simp] theorem timeOutClosures_queue_sending (j : Nat) (s : State) : ((timeOutClosures j s).1).queue.sending = s.queue.sending := by
  simp [timeOutClosures]
@[simp] theorem timeOutClosures_queue_responseClaim (j : Nat) (s : State) : ((timeOutClosures j s).1).queue.responseClaim = s.queue.responseClaim := by
  simp [timeOutClosures]
@[simp] theorem timeOutClosures_assembler_lastStation (j : Nat) (s : State) : ((timeOutClosures j s).1).assembler.lastStation = s.assembler.lastStation := by
  simp [timeOutClosures]
@[simp] theorem timeOutClosures_assembler_discards (j : Nat) (s : State) : ((timeOutClosures j s).1).assembler.discards = s.assembler.discards := by
  simp [timeOutClosures]

/-! ### The halt -/

@[simp] theorem haltRun_ports (k : EventKind) (s : State) : (haltRun k s).ports = s.ports := by
  simp [haltRun]
@[simp] theorem haltRun_correctors (k : EventKind) (s : State) : (haltRun k s).correctors = s.correctors := by
  simp [haltRun]
@[simp] theorem haltRun_route (k : EventKind) (s : State) : (haltRun k s).route = s.route := by
  simp [haltRun]
@[simp] theorem haltRun_mgmt (k : EventKind) (s : State) : (haltRun k s).mgmt = s.mgmt := by
  simp [haltRun]
@[simp] theorem haltRun_choices (k : EventKind) (s : State) : (haltRun k s).choices = s.choices := by
  simp [haltRun]
@[simp] theorem haltRun_pending (k : EventKind) (s : State) : (haltRun k s).pending = s.pending := by
  simp [haltRun]
@[simp] theorem haltRun_run_params (k : EventKind) (s : State) : (haltRun k s).run.params = s.run.params := by
  simp [haltRun]
@[simp] theorem haltRun_run_runNumber (k : EventKind) (s : State) : (haltRun k s).run.runNumber = s.run.runNumber := by
  simp [haltRun]
@[simp] theorem haltRun_run_startTime (k : EventKind) (s : State) : (haltRun k s).run.startTime = s.run.startTime := by
  simp [haltRun]
@[simp] theorem haltRun_run_timebase (k : EventKind) (s : State) : (haltRun k s).run.timebase = s.run.timebase := by
  simp [haltRun]
@[simp] theorem haltRun_run_paramsSet (k : EventKind) (s : State) : (haltRun k s).run.paramsSet = s.run.paramsSet := by
  simp [haltRun]
@[simp] theorem haltRun_queue_linkUp (k : EventKind) (s : State) : (haltRun k s).queue.linkUp = s.queue.linkUp := by
  simp [haltRun]
@[simp] theorem haltRun_queue_floor (k : EventKind) (s : State) : (haltRun k s).queue.floor = s.queue.floor := by
  simp [haltRun]
@[simp] theorem haltRun_queue_sending (k : EventKind) (s : State) : (haltRun k s).queue.sending = s.queue.sending := by
  simp [haltRun]
@[simp] theorem haltRun_queue_responseClaim (k : EventKind) (s : State) : (haltRun k s).queue.responseClaim = s.queue.responseClaim := by
  simp [haltRun]
@[simp] theorem haltRun_assembler_lastStation (k : EventKind) (s : State) : (haltRun k s).assembler.lastStation = s.assembler.lastStation := by
  simp [haltRun]
@[simp] theorem haltRun_assembler_discards (k : EventKind) (s : State) : (haltRun k s).assembler.discards = s.assembler.discards := by
  simp [haltRun]

@[simp] theorem haltRun_runState (k : EventKind) (s : State) : (haltRun k s).run.runState = .halted := rfl

@[simp] theorem haltRun_odo (k : EventKind) (s : State) : (haltRun k s).odo = handOver s.odo := by
  simp [haltRun]

@[simp] theorem haltRun_headLoss (k : EventKind) (s : State) : (haltRun k s).faults.headLoss = none := rfl

@[simp] theorem haltRun_linkLoss (k : EventKind) (s : State) : (haltRun k s).faults.linkLoss = none := rfl

@[simp] theorem decideHalt_ports (r : State × Bool) : (decideHalt r).ports = r.1.ports := by
  unfold decideHalt; split <;> simp
@[simp] theorem decideHalt_correctors (r : State × Bool) : (decideHalt r).correctors = r.1.correctors := by
  unfold decideHalt; split <;> simp
@[simp] theorem decideHalt_route (r : State × Bool) : (decideHalt r).route = r.1.route := by
  unfold decideHalt; split <;> simp
@[simp] theorem decideHalt_mgmt (r : State × Bool) : (decideHalt r).mgmt = r.1.mgmt := by
  unfold decideHalt; split <;> simp
@[simp] theorem decideHalt_choices (r : State × Bool) : (decideHalt r).choices = r.1.choices := by
  unfold decideHalt; split <;> simp
@[simp] theorem decideHalt_pending (r : State × Bool) : (decideHalt r).pending = r.1.pending := by
  unfold decideHalt; split <;> simp
@[simp] theorem decideHalt_run_params (r : State × Bool) : (decideHalt r).run.params = r.1.run.params := by
  unfold decideHalt; split <;> simp
@[simp] theorem decideHalt_run_runNumber (r : State × Bool) : (decideHalt r).run.runNumber = r.1.run.runNumber := by
  unfold decideHalt; split <;> simp
@[simp] theorem decideHalt_run_startTime (r : State × Bool) : (decideHalt r).run.startTime = r.1.run.startTime := by
  unfold decideHalt; split <;> simp
@[simp] theorem decideHalt_run_timebase (r : State × Bool) : (decideHalt r).run.timebase = r.1.run.timebase := by
  unfold decideHalt; split <;> simp
@[simp] theorem decideHalt_run_paramsSet (r : State × Bool) : (decideHalt r).run.paramsSet = r.1.run.paramsSet := by
  unfold decideHalt; split <;> simp
@[simp] theorem decideHalt_queue_linkUp (r : State × Bool) : (decideHalt r).queue.linkUp = r.1.queue.linkUp := by
  unfold decideHalt; split <;> simp
@[simp] theorem decideHalt_queue_floor (r : State × Bool) : (decideHalt r).queue.floor = r.1.queue.floor := by
  unfold decideHalt; split <;> simp
@[simp] theorem decideHalt_queue_sending (r : State × Bool) : (decideHalt r).queue.sending = r.1.queue.sending := by
  unfold decideHalt; split <;> simp
@[simp] theorem decideHalt_queue_responseClaim (r : State × Bool) : (decideHalt r).queue.responseClaim = r.1.queue.responseClaim := by
  unfold decideHalt; split <;> simp
@[simp] theorem decideHalt_assembler_lastStation (r : State × Bool) : (decideHalt r).assembler.lastStation = r.1.assembler.lastStation := by
  unfold decideHalt; split <;> simp
@[simp] theorem decideHalt_assembler_discards (r : State × Bool) : (decideHalt r).assembler.discards = r.1.assembler.discards := by
  unfold decideHalt; split <;> simp

@[simp] theorem takeHardFault_ports (src : Source) (d : EventDetail) (s : State) : (takeHardFault src d s).ports = s.ports := by
  simp only [takeHardFault]; split <;> simp
@[simp] theorem takeHardFault_correctors (src : Source) (d : EventDetail) (s : State) : (takeHardFault src d s).correctors = s.correctors := by
  simp only [takeHardFault]; split <;> simp
@[simp] theorem takeHardFault_route (src : Source) (d : EventDetail) (s : State) : (takeHardFault src d s).route = s.route := by
  simp only [takeHardFault]; split <;> simp
@[simp] theorem takeHardFault_mgmt (src : Source) (d : EventDetail) (s : State) : (takeHardFault src d s).mgmt = s.mgmt := by
  simp only [takeHardFault]; split <;> simp
@[simp] theorem takeHardFault_choices (src : Source) (d : EventDetail) (s : State) : (takeHardFault src d s).choices = s.choices := by
  simp only [takeHardFault]; split <;> simp
@[simp] theorem takeHardFault_pending (src : Source) (d : EventDetail) (s : State) : (takeHardFault src d s).pending = s.pending := by
  simp only [takeHardFault]; split <;> simp
@[simp] theorem takeHardFault_run_params (src : Source) (d : EventDetail) (s : State) : (takeHardFault src d s).run.params = s.run.params := by
  simp only [takeHardFault]; split <;> simp
@[simp] theorem takeHardFault_run_runNumber (src : Source) (d : EventDetail) (s : State) : (takeHardFault src d s).run.runNumber = s.run.runNumber := by
  simp only [takeHardFault]; split <;> simp
@[simp] theorem takeHardFault_run_startTime (src : Source) (d : EventDetail) (s : State) : (takeHardFault src d s).run.startTime = s.run.startTime := by
  simp only [takeHardFault]; split <;> simp
@[simp] theorem takeHardFault_run_timebase (src : Source) (d : EventDetail) (s : State) : (takeHardFault src d s).run.timebase = s.run.timebase := by
  simp only [takeHardFault]; split <;> simp
@[simp] theorem takeHardFault_run_paramsSet (src : Source) (d : EventDetail) (s : State) : (takeHardFault src d s).run.paramsSet = s.run.paramsSet := by
  simp only [takeHardFault]; split <;> simp
@[simp] theorem takeHardFault_queue_linkUp (src : Source) (d : EventDetail) (s : State) : (takeHardFault src d s).queue.linkUp = s.queue.linkUp := by
  simp only [takeHardFault]; split <;> simp
@[simp] theorem takeHardFault_queue_floor (src : Source) (d : EventDetail) (s : State) : (takeHardFault src d s).queue.floor = s.queue.floor := by
  simp only [takeHardFault]; split <;> simp
@[simp] theorem takeHardFault_queue_sending (src : Source) (d : EventDetail) (s : State) : (takeHardFault src d s).queue.sending = s.queue.sending := by
  simp only [takeHardFault]; split <;> simp
@[simp] theorem takeHardFault_queue_responseClaim (src : Source) (d : EventDetail) (s : State) : (takeHardFault src d s).queue.responseClaim = s.queue.responseClaim := by
  simp only [takeHardFault]; split <;> simp
@[simp] theorem takeHardFault_assembler_lastStation (src : Source) (d : EventDetail) (s : State) : (takeHardFault src d s).assembler.lastStation = s.assembler.lastStation := by
  simp only [takeHardFault]; split <;> simp
@[simp] theorem takeHardFault_assembler_discards (src : Source) (d : EventDetail) (s : State) : (takeHardFault src d s).assembler.discards = s.assembler.discards := by
  simp only [takeHardFault]; split <;> simp

end Sys2Proof.Machine
end

