-- ==== Sys2Proof/Laws/Closures.lean ====
section
/-! SUPPORT. Closures one after another in the words of the claims (`closures`, `haltedBy`, `afterClosures`) are those of the
machine (`closeAll`, `haltRun`, `decideHalt`). -/

namespace Sys2Proof.Machine

/-- A loss already found stays found: the fold of `closures` from any start. -/
theorem closures_from (reason : Context → Option CloseReason) (cs : List Context) (s : State) (b : Bool) :
    cs.foldl (fun r c => ((closeContext (reason c) c r.1).1, r.2 || (closeContext (reason c) c r.1).2)) (s, b)
      = ((closeAll (cs.map fun c => (c, reason c)) s).1, b || (closeAll (cs.map fun c => (c, reason c)) s).2) := by
  induction cs generalizing s b with
  | nil => simp [closeAll]
  | cons c cs ih => simp only [List.foldl_cons, List.map_cons, closeAll, ih, Bool.or_assoc]

/-- Closures one after another are what `closeAll` makes of the same contexts and reasons. -/
theorem closures_eq_closeAll (reason : Context → Option CloseReason) (cs : List Context) (s : State) :
    closures reason cs s = closeAll (cs.map fun c => (c, reason c)) s := by
  rw [closures, closures_from]; simp

/-- No closure changes nothing and loses nothing. -/
@[simp] theorem closures_nil (reason : Context → Option CloseReason) (s : State) : closures reason [] s = (s, false) := rfl

/-- The first closure, and those behind it. -/
theorem closures_cons (reason : Context → Option CloseReason) (c : Context) (cs : List Context) (s : State) :
    closures reason (c :: cs) s
      = ((closures reason cs (closeContext (reason c) c s).1).1,
        (closeContext (reason c) c s).2 || (closures reason cs (closeContext (reason c) c s).1).2) := by
  rw [closures, List.foldl_cons, closures_from, closures_eq_closeAll]; simp

/-- The halt in the words of the claims. -/
theorem haltRun_eq_haltedBy (fault : EventKind) (s : State) : haltRun fault s = haltedBy fault s := by
  unfold haltRun haltedBy closeEvery
  rw [closures_eq_closeAll]
  rfl

/-- The halt decision of R192 in a survey. -/
theorem decideHalt_eq_afterClosures (r : State × Bool) (h : inSurvey r.1.run.runState = true) :
    decideHalt r = afterClosures r := by
  unfold decideHalt afterClosures
  rw [h, haltRun_eq_haltedBy, Bool.and_true]

end Sys2Proof.Machine
end

