-- ==== Sys2Proof/Laws/Lines.lean ====
section
/-! SUPPORT. What the camera line's pulses leave of it (R77), and what the inbound side of the trunk link can change (R151). -/

namespace Sys2Proof.Machine

/-- One pulse of an idle line is one more pulse given, and the line is idle again. -/
theorem pulseCamera_idle (n : Nat) : pulseCamera ⟨.idle, n⟩ = ⟨.idle, n + 1⟩ := rfl

/-- However many pulses an idle line gives, one after another, it is idle after them, and each is counted. -/
theorem pulseTimes_idle (k n : Nat) : pulseTimes k ⟨.idle, n⟩ = ⟨.idle, n + k⟩ := by
  induction k generalizing n with
  | zero => rfl
  | succ k ih => rw [pulseTimes, pulseCamera_idle, ih, Nat.add_assoc, Nat.add_comm 1 k]

/-- What a frame on the inbound side can do: with the link UP the Management Unit takes it, with the link DOWN there is none. -/
theorem receiveInbound_cases (f : Management → Management) (s : State) :
    (s.queue.linkUp = true ∧ receiveInbound f s = s.withMgmt (f s.mgmt))
      ∨ (s.queue.linkUp = false ∧ receiveInbound f s = s) := by
  unfold receiveInbound
  cases s.queue.linkUp <;> simp

@[simp] theorem receiveInbound_run (f : Management → Management) (s : State) : (receiveInbound f s).run = s.run := by
  unfold receiveInbound; split <;> rfl
@[simp] theorem receiveInbound_ports (f : Management → Management) (s : State) : (receiveInbound f s).ports = s.ports := by
  unfold receiveInbound; split <;> rfl
@[simp] theorem receiveInbound_correctors (f : Management → Management) (s : State) :
    (receiveInbound f s).correctors = s.correctors := by
  unfold receiveInbound; split <;> rfl
@[simp] theorem receiveInbound_odo (f : Management → Management) (s : State) : (receiveInbound f s).odo = s.odo := by
  unfold receiveInbound; split <;> rfl
@[simp] theorem receiveInbound_route (f : Management → Management) (s : State) : (receiveInbound f s).route = s.route := by
  unfold receiveInbound; split <;> rfl
@[simp] theorem receiveInbound_assembler (f : Management → Management) (s : State) :
    (receiveInbound f s).assembler = s.assembler := by
  unfold receiveInbound; split <;> rfl
@[simp] theorem receiveInbound_comparator (f : Management → Management) (s : State) :
    (receiveInbound f s).comparator = s.comparator := by
  unfold receiveInbound; split <;> rfl
@[simp] theorem receiveInbound_queue (f : Management → Management) (s : State) : (receiveInbound f s).queue = s.queue := by
  unfold receiveInbound; split <;> rfl
@[simp] theorem receiveInbound_faults (f : Management → Management) (s : State) : (receiveInbound f s).faults = s.faults := by
  unfold receiveInbound; split <;> rfl
@[simp] theorem receiveInbound_choices (f : Management → Management) (s : State) :
    (receiveInbound f s).choices = s.choices := by
  unfold receiveInbound; split <;> rfl
@[simp] theorem receiveInbound_pending (f : Management → Management) (s : State) :
    (receiveInbound f s).pending = s.pending := by
  unfold receiveInbound; split <;> rfl

end Sys2Proof.Machine
end

