-- ==== Sys2Proof/Laws/Queue.lean ====
section
/-! SUPPORT. The queue's own operations: what joining, serving the holder, choosing and dropping do to the lists and to the
sizes (R145 to R160). -/

namespace Sys2Proof.Machine

/-! ### Sizes -/

@[simp] theorem totalSize_nil : totalSize [] = 0 := rfl

@[simp] theorem totalSize_cons (r : Record) (l : List Record) : totalSize (r :: l) = recordSize r + totalSize l := by
  simp [totalSize]

@[simp] theorem totalSize_append (l m : List Record) : totalSize (l ++ m) = totalSize l + totalSize m := by
  simp [totalSize]

theorem totalSize_tail_le (l : List Record) : totalSize l.tail ≤ totalSize l := by
  cases l <;> simp

theorem totalSize_take_le (l : List Record) (n : Nat) : totalSize (l.take n) ≤ totalSize l := by
  have := congrArg totalSize (List.take_append_drop n l)
  rw [totalSize_append] at this; omega

@[simp] theorem occupancy_joinControl (r : Record) (q : Outbound) :
    occupancy (joinControl r q) = occupancy q + recordSize r := by
  simp [occupancy, joinControl]; omega

@[simp] theorem occupancy_joinData (r : Record) (q : Outbound) :
    occupancy (joinData r q) = occupancy q + recordSize r := by
  simp [occupancy, joinData]; omega

@[simp] theorem dataOccupancy_joinControl (r : Record) (q : Outbound) :
    dataOccupancy (joinControl r q) = dataOccupancy q := rfl

@[simp] theorem dataOccupancy_joinData (r : Record) (q : Outbound) :
    dataOccupancy (joinData r q) = dataOccupancy q + recordSize r := by
  simp [dataOccupancy, joinData]

theorem fitsControl_iff (q : Outbound) (n : Nat) :
    fitsControl q n = true ↔ occupancy q + holderClaim q + q.responseClaim + n ≤ 65536 := by
  simp only [fitsControl, decide_eq_true_eq]; exact Iff.rfl

theorem fitsData_iff (q : Outbound) (n : Nat) :
    fitsData q n = true ↔
      occupancy q + holderClaim q + q.responseClaim + n ≤ 65536 ∧ dataOccupancy q + n ≤ 61440 := by
  simp only [fitsData, fitsControl, Bool.and_eq_true, decide_eq_true_eq]; exact Iff.rfl

theorem recordSize_profileRecord (c : ProfileContent) (f : ProfileForm) : recordSize (profileRecord c f) = formSize f := by
  cases f <;> rfl

/-! ### Serving the holder -/

/-- All that serving can do (R160): the oldest `n` of the records join the control list, each fitting; the rest wait, and the
first of them does not fit. -/
theorem serveRecords_spec (l : List Record) (q : Outbound) :
    ∃ n, serveRecords l q = { q with control := q.control ++ l.take n, holder := l.drop n }
      ∧ (occupancy q + q.responseClaim ≤ 65536 → occupancy q + q.responseClaim + totalSize (l.take n) ≤ 65536)
      ∧ ∀ r, (l.drop n).head? = some r →
          65536 < occupancy q + totalSize (l.take n) + q.responseClaim + recordSize r := by
  induction l generalizing q with
  | nil => exact ⟨0, by simp [serveRecords], by simp, by simp⟩
  | cons r rest ih =>
    unfold serveRecords
    split
    · rename_i h
      simp only [queueCapacity] at h
      obtain ⟨n, h1, h2, h3⟩ := ih (joinControl r q)
      refine ⟨n + 1, ?_, ?_, ?_⟩
      · rw [h1]; simp [joinControl]
      · intro _
        have := h2 (by simp only [occupancy_joinControl]; simp only [joinControl]; omega)
        simp only [occupancy_joinControl] at this
        simp only [joinControl] at this
        simp only [List.take_succ_cons, totalSize_cons]; omega
      · intro x hx
        have := h3 x (by simpa using hx)
        simp only [occupancy_joinControl] at this
        simp only [joinControl] at this
        simp only [List.take_succ_cons, totalSize_cons]; omega
    · rename_i h
      simp only [queueCapacity] at h
      refine ⟨0, by simp, by simp, ?_⟩
      intro x hx
      simp only [List.drop_zero, List.head?_cons, Option.some.injEq] at hx
      subst hx
      simp only [List.take_zero, totalSize_nil]; omega

theorem serveHolder_spec (q : Outbound) :
    ∃ n, serveHolder q = { q with control := q.control ++ q.holder.take n, holder := q.holder.drop n }
      ∧ (occupancy q + q.responseClaim ≤ 65536 → occupancy q + q.responseClaim + totalSize (q.holder.take n) ≤ 65536)
      ∧ ∀ r, (q.holder.drop n).head? = some r →
          65536 < occupancy q + totalSize (q.holder.take n) + q.responseClaim + recordSize r :=
  serveRecords_spec q.holder q

@[simp] theorem serveHolder_data (q : Outbound) : (serveHolder q).data = q.data := by
  obtain ⟨n, h, -⟩ := serveHolder_spec q; rw [h]

@[simp] theorem serveHolder_sending (q : Outbound) : (serveHolder q).sending = q.sending := by
  obtain ⟨n, h, -⟩ := serveHolder_spec q; rw [h]

@[simp] theorem serveHolder_linkUp (q : Outbound) : (serveHolder q).linkUp = q.linkUp := by
  obtain ⟨n, h, -⟩ := serveHolder_spec q; rw [h]

@[simp] theorem serveHolder_level (q : Outbound) : (serveHolder q).level = q.level := by
  obtain ⟨n, h, -⟩ := serveHolder_spec q; rw [h]

@[simp] theorem serveHolder_floor (q : Outbound) : (serveHolder q).floor = q.floor := by
  obtain ⟨n, h, -⟩ := serveHolder_spec q; rw [h]

@[simp] theorem serveHolder_keep (q : Outbound) : (serveHolder q).keep = q.keep := by
  obtain ⟨n, h, -⟩ := serveHolder_spec q; rw [h]

@[simp] theorem serveHolder_responseClaim (q : Outbound) : (serveHolder q).responseClaim = q.responseClaim := by
  obtain ⟨n, h, -⟩ := serveHolder_spec q; rw [h]

@[simp] theorem serveHolder_counters (q : Outbound) : (serveHolder q).counters = q.counters := by
  obtain ⟨n, h, -⟩ := serveHolder_spec q; rw [h]

@[simp] theorem dataOccupancy_serveHolder (q : Outbound) : dataOccupancy (serveHolder q) = dataOccupancy q := by
  simp [dataOccupancy]

/-! ### The arbiter and the end of a transmission -/

/-- All that the arbiter can do (R149): nothing, or choose the list of the record to send. -/
theorem arbitrate_spec (q : Outbound) :
    arbitrate q = q ∧ (q.sending = none → q.linkUp = true → q.control = [] ∧ q.data = [])
      ∨ q.sending = none ∧ q.linkUp = true
        ∧ (arbitrate q = { q with sending := some .control } ∧ q.control ≠ []
          ∨ arbitrate q = { q with sending := some .data } ∧ q.control = [] ∧ q.data ≠ []) := by
  rcases hs : q.sending with _ | l <;> rcases hl : q.linkUp <;> rcases hc : q.control with _ | ⟨r, rest⟩
    <;> rcases hd : q.data with _ | ⟨r', rest'⟩ <;> simp [arbitrate, hs, hl, hc, hd]

@[simp] theorem arbitrate_control (q : Outbound) : (arbitrate q).control = q.control := by
  rcases arbitrate_spec q with ⟨h, -⟩ | ⟨-, -, ⟨h, -⟩ | ⟨h, -⟩⟩ <;> rw [h]

@[simp] theorem arbitrate_data (q : Outbound) : (arbitrate q).data = q.data := by
  rcases arbitrate_spec q with ⟨h, -⟩ | ⟨-, -, ⟨h, -⟩ | ⟨h, -⟩⟩ <;> rw [h]

@[simp] theorem arbitrate_linkUp (q : Outbound) : (arbitrate q).linkUp = q.linkUp := by
  rcases arbitrate_spec q with ⟨h, -⟩ | ⟨-, -, ⟨h, -⟩ | ⟨h, -⟩⟩ <;> rw [h]

@[simp] theorem arbitrate_level (q : Outbound) : (arbitrate q).level = q.level := by
  rcases arbitrate_spec q with ⟨h, -⟩ | ⟨-, -, ⟨h, -⟩ | ⟨h, -⟩⟩ <;> rw [h]

@[simp] theorem arbitrate_floor (q : Outbound) : (arbitrate q).floor = q.floor := by
  rcases arbitrate_spec q with ⟨h, -⟩ | ⟨-, -, ⟨h, -⟩ | ⟨h, -⟩⟩ <;> rw [h]

@[simp] theorem arbitrate_keep (q : Outbound) : (arbitrate q).keep = q.keep := by
  rcases arbitrate_spec q with ⟨h, -⟩ | ⟨-, -, ⟨h, -⟩ | ⟨h, -⟩⟩ <;> rw [h]

@[simp] theorem arbitrate_holder (q : Outbound) : (arbitrate q).holder = q.holder := by
  rcases arbitrate_spec q with ⟨h, -⟩ | ⟨-, -, ⟨h, -⟩ | ⟨h, -⟩⟩ <;> rw [h]

@[simp] theorem arbitrate_responseClaim (q : Outbound) : (arbitrate q).responseClaim = q.responseClaim := by
  rcases arbitrate_spec q with ⟨h, -⟩ | ⟨-, -, ⟨h, -⟩ | ⟨h, -⟩⟩ <;> rw [h]

@[simp] theorem arbitrate_counters (q : Outbound) : (arbitrate q).counters = q.counters := by
  rcases arbitrate_spec q with ⟨h, -⟩ | ⟨-, -, ⟨h, -⟩ | ⟨h, -⟩⟩ <;> rw [h]

@[simp] theorem occupancy_arbitrate (q : Outbound) : occupancy (arbitrate q) = occupancy q := by
  simp [occupancy]

@[simp] theorem dataOccupancy_arbitrate (q : Outbound) : dataOccupancy (arbitrate q) = dataOccupancy q := by
  simp [dataOccupancy]

@[simp] theorem dropSent_linkUp (q : Outbound) : (dropSent q).linkUp = q.linkUp := by
  unfold dropSent; split <;> rfl

@[simp] theorem dropSent_level (q : Outbound) : (dropSent q).level = q.level := by
  unfold dropSent; split <;> rfl

@[simp] theorem dropSent_floor (q : Outbound) : (dropSent q).floor = q.floor := by
  unfold dropSent; split <;> rfl

@[simp] theorem dropSent_keep (q : Outbound) : (dropSent q).keep = q.keep := by
  unfold dropSent; split <;> rfl

@[simp] theorem dropSent_holder (q : Outbound) : (dropSent q).holder = q.holder := by
  unfold dropSent; split <;> rfl

@[simp] theorem dropSent_responseClaim (q : Outbound) : (dropSent q).responseClaim = q.responseClaim := by
  unfold dropSent; split <;> rfl

@[simp] theorem dropSent_counters (q : Outbound) : (dropSent q).counters = q.counters := by
  unfold dropSent; split <;> rfl

@[simp] theorem dropSent_sending (q : Outbound) : (dropSent q).sending = none := by
  unfold dropSent; split <;> simp_all

theorem occupancy_dropSent_le (q : Outbound) : occupancy (dropSent q) ≤ occupancy q := by
  unfold dropSent
  split
  · exact Nat.le_refl _
  · have := totalSize_tail_le q.control; simp only [occupancy]; omega
  · have := totalSize_tail_le q.data; simp only [occupancy]; omega

theorem dataOccupancy_dropSent_le (q : Outbound) : dataOccupancy (dropSent q) ≤ dataOccupancy q := by
  unfold dropSent
  split
  · exact Nat.le_refl _
  · exact Nat.le_refl _
  · exact totalSize_tail_le q.data

end Sys2Proof.Machine
end

