-- ==== Sys2Proof/Laws/Taking.lean ====
section
/-! SUPPORT. The taking of a request (R168, R169): when it happens, what it leaves, and what each kind of request can do to
the state. -/

namespace Sys2Proof.Machine

@[simp] theorem refuse_fst (st : Status) (p : List Byte) (s : State) : (refuse st p s).1 = s := rfl

@[simp] theorem refuse_status (st : Status) (p : List Byte) (s : State) : (refuse st p s).2.status = st := rfl

@[simp] theorem accept_fst (p : List Byte) (s : State) : (accept p s).1 = s := rfl

@[simp] theorem accept_status (p : List Byte) (s : State) : (accept p s).2.status = .ok := rfl

@[simp] theorem badField_fst (n : Nat) (s : State) : (badField n s).1 = s := rfl

@[simp] theorem badField_status (n : Nat) (s : State) : (badField n s).2.status = .badValue := rfl

/-- All that a taking can do: nothing, or the answer to the oldest request. -/
theorem takeRequest_cases (isKind : Nat → Bool) (body : List Byte → State → State × Reply) (s : State) :
    takeRequest isKind body s = s
      ∨ ∃ r rest, Ready s r rest ∧ isKind r.kind.toNat = true
        ∧ takeRequest isKind body s
          = endEvent (finishTaking r s.run.timebase (body r.payload (beginTaking rest s))) := by
  unfold takeRequest
  split
  · exact Or.inl rfl
  · rename_i r rest e
    split
    · rename_i h
      simp only [Bool.and_eq_true, roomToTake, decide_eq_true_eq] at h
      refine Or.inr ⟨r, rest, ⟨e, ?_⟩, h.1, rfl⟩
      have h2 := h.2
      simp only [responseSpace, freeSpace, queueCapacity] at h2
      omega
    · exact Or.inl rfl

/-- A request of the kind, at the front and with room, is taken. -/
theorem takeRequest_ready {isKind : Nat → Bool} {body : List Byte → State → State × Reply} {s : State} {r : Request}
    {rest : List Request} (h : Ready s r rest) (hk : isKind r.kind.toNat = true) :
    takeRequest isKind body s = endEvent (finishTaking r s.run.timebase (body r.payload (beginTaking rest s))) := by
  have hr : roomToTake s = true := by
    have h2 := h.room
    have h3 : responseSpace ≤ freeSpace s.queue := by simp only [responseSpace, freeSpace, queueCapacity]; omega
    exact decide_eq_true h3
  simp [takeRequest, h.front, hk, hr]

/-- The end of a taking in the words of `answered`. -/
theorem endEvent_finishTaking (r : Request) (stamp : Nat) (s : State) (reply : Reply) :
    endEvent (finishTaking r stamp (s, reply))
      = answered s r s.mgmt.intake reply.status reply.payload (reply.stamp.getD stamp) := rfl

/-- A taking in the words of `answered`: `t` is what the owning rule makes of the state with the claim set. -/
theorem takeKind_ready {code : Nat} {body : List Byte → State → State × Reply} {s : State} {r : Request}
    {rest : List Request} (h : Ready s r rest) (hk : r.kind.toNat = code) :
    takeKind code body s
      = answered (body r.payload (beginTaking rest s)).1 r (body r.payload (beginTaking rest s)).1.mgmt.intake
          (body r.payload (beginTaking rest s)).2.status (body r.payload (beginTaking rest s)).2.payload
          ((body r.payload (beginTaking rest s)).2.stamp.getD s.run.timebase) := by
  have hk' : (fun k => k == code) r.kind.toNat = true := by simpa using hk
  exact takeRequest_ready h hk'

/-- A body of fixed length, given that length. -/
theorem withLength_eq {n : Nat} {body : List Byte → State → State × Reply} {payload : List Byte} {s : State}
    (h : payload.length = n) : withLength n body payload s = body payload s := by
  simp [withLength, h]

theorem withLength_ne {n : Nat} {body : List Byte → State → State × Reply} {payload : List Byte} {s : State}
    (h : payload.length ≠ n) : withLength n body payload s = refuse .malformed [] s := by
  simp [withLength, h]

/-- What is true of the state a request finds, and of what its body makes of it, is true after a body of fixed length. -/
theorem withLength_cases (n : Nat) (body : List Byte → State → State × Reply) (payload : List Byte) (s : State) :
    (withLength n body payload s).1 = s ∨ (payload.length = n ∧ withLength n body payload s = body payload s) := by
  unfold withLength
  split
  · rename_i h; exact Or.inr ⟨h, rfl⟩
  · exact Or.inl rfl

/-! ### What the taking leaves -/

@[simp] theorem beginTaking_run (rest : List Request) (s : State) : (beginTaking rest s).run = s.run := rfl

@[simp] theorem beginTaking_ports (rest : List Request) (s : State) : (beginTaking rest s).ports = s.ports := rfl

@[simp] theorem beginTaking_correctors (rest : List Request) (s : State) : (beginTaking rest s).correctors = s.correctors := rfl

@[simp] theorem beginTaking_odo (rest : List Request) (s : State) : (beginTaking rest s).odo = s.odo := rfl

@[simp] theorem beginTaking_route (rest : List Request) (s : State) : (beginTaking rest s).route = s.route := rfl

@[simp] theorem beginTaking_assembler (rest : List Request) (s : State) : (beginTaking rest s).assembler = s.assembler := rfl

@[simp] theorem beginTaking_comparator (rest : List Request) (s : State) : (beginTaking rest s).comparator = s.comparator := rfl

@[simp] theorem beginTaking_faults (rest : List Request) (s : State) : (beginTaking rest s).faults = s.faults := rfl

@[simp] theorem beginTaking_choices (rest : List Request) (s : State) : (beginTaking rest s).choices = s.choices := rfl

@[simp] theorem beginTaking_pending (rest : List Request) (s : State) : (beginTaking rest s).pending = s.pending := rfl

@[simp] theorem beginTaking_mgmt (rest : List Request) (s : State) :
    (beginTaking rest s).mgmt = { s.mgmt with intake := rest } := rfl

@[simp] theorem beginTaking_queue (rest : List Request) (s : State) :
    (beginTaking rest s).queue = { s.queue with responseClaim := 1040 } := rfl

@[simp] theorem answered_run (s : State) (r : Request) (rest : List Request) (st : Status) (p : List Byte) (n : Nat) :
    (answered s r rest st p n).run = s.run := rfl

@[simp] theorem answered_ports (s : State) (r : Request) (rest : List Request) (st : Status) (p : List Byte) (n : Nat) :
    (answered s r rest st p n).ports = s.ports := rfl

@[simp] theorem answered_correctors (s : State) (r : Request) (rest : List Request) (st : Status) (p : List Byte) (n : Nat) :
    (answered s r rest st p n).correctors = s.correctors := rfl

@[simp] theorem answered_odo (s : State) (r : Request) (rest : List Request) (st : Status) (p : List Byte) (n : Nat) :
    (answered s r rest st p n).odo = s.odo := rfl

@[simp] theorem answered_route (s : State) (r : Request) (rest : List Request) (st : Status) (p : List Byte) (n : Nat) :
    (answered s r rest st p n).route = s.route := rfl

@[simp] theorem answered_assembler (s : State) (r : Request) (rest : List Request) (st : Status) (p : List Byte) (n : Nat) :
    (answered s r rest st p n).assembler = s.assembler := rfl

@[simp] theorem answered_comparator (s : State) (r : Request) (rest : List Request) (st : Status) (p : List Byte) (n : Nat) :
    (answered s r rest st p n).comparator = s.comparator := rfl

@[simp] theorem answered_faults (s : State) (r : Request) (rest : List Request) (st : Status) (p : List Byte) (n : Nat) :
    (answered s r rest st p n).faults = s.faults := rfl

@[simp] theorem answered_choices (s : State) (r : Request) (rest : List Request) (st : Status) (p : List Byte) (n : Nat) :
    (answered s r rest st p n).choices = s.choices := rfl

@[simp] theorem answered_pending (s : State) (r : Request) (rest : List Request) (st : Status) (p : List Byte) (n : Nat) :
    (answered s r rest st p n).pending = s.pending := rfl

@[simp] theorem answered_queue_data (s : State) (r : Request) (rest : List Request) (st : Status) (p : List Byte) (n : Nat) :
    (answered s r rest st p n).queue.data = s.queue.data := by
  simp [answered]

@[simp] theorem answered_queue_linkUp (s : State) (r : Request) (rest : List Request) (st : Status) (p : List Byte) (n : Nat) :
    (answered s r rest st p n).queue.linkUp = s.queue.linkUp := by
  simp [answered]

@[simp] theorem answered_queue_level (s : State) (r : Request) (rest : List Request) (st : Status) (p : List Byte) (n : Nat) :
    (answered s r rest st p n).queue.level = s.queue.level := by
  simp [answered]

@[simp] theorem answered_queue_floor (s : State) (r : Request) (rest : List Request) (st : Status) (p : List Byte) (n : Nat) :
    (answered s r rest st p n).queue.floor = s.queue.floor := by
  simp [answered]

@[simp] theorem answered_queue_keep (s : State) (r : Request) (rest : List Request) (st : Status) (p : List Byte) (n : Nat) :
    (answered s r rest st p n).queue.keep = s.queue.keep := by
  simp [answered]

@[simp] theorem answered_queue_counters (s : State) (r : Request) (rest : List Request) (st : Status) (p : List Byte) (n : Nat) :
    (answered s r rest st p n).queue.counters = s.queue.counters := by
  simp [answered]

@[simp] theorem answered_queue_responseClaim (s : State) (r : Request) (rest : List Request) (st : Status) (p : List Byte)
    (n : Nat) : (answered s r rest st p n).queue.responseClaim = 0 := by
  simp [answered]

/-! ### What each request can do to the state -/

theorem setTime_state (p : List Byte) (s : State) :
    (setTime p s).1 = s.withRun { s.run with timebase := fieldU 0 4 p } := rfl

theorem setLevelFloor_state (p : List Byte) (s : State) :
    (setLevelFloor p s).1 = s ∨ fieldU 0 1 p ≤ 5 ∧ (setLevelFloor p s).1 =
      s.withQueue { s.queue with floor := fieldU 0 1 p, level := max s.queue.level (fieldU 0 1 p) } := by
  unfold setLevelFloor
  dsimp only
  split
  · exact Or.inl rfl
  · rename_i h; exact Or.inr ⟨by omega, rfl⟩

theorem ackFault_state (p : List Byte) (s : State) :
    (ackFault p s).1 = s
      ∨ (ackFault p s).1 = s.withFaults { s.faults with hard := acknowledge s.faults.hard }
      ∨ (ackFault p s).1 = s.withFaults { s.faults with soft := acknowledge s.faults.soft } := by
  unfold ackFault
  split
  · exact Or.inr (Or.inl rfl)
  · exact Or.inr (Or.inr rfl)
  · exact Or.inl rfl

theorem stageOpen_state (p : List Byte) (s : State) :
    (stageOpen p s).1 = s
      ∨ ∃ t, targetOf (fieldU 0 1 p) (fieldU 1 1 p) = .inl t ∧ s.mgmt.staging = none ∧ frozen s.run.runState = false
        ∧ (stageOpen p s).1 = s.withMgmt { s.mgmt with staging := some { target := t } } := by
  unfold stageOpen
  split
  · exact Or.inl rfl
  · rename_i t ht
    split
    · exact Or.inl rfl
    · rename_i hs
      split
      · exact Or.inl rfl
      · rename_i hf; exact Or.inr ⟨t, ht, hs, by simpa using hf, rfl⟩

theorem stagePart_state (p : List Byte) (s : State) :
    (stagePart p s).1 = s
      ∨ ∃ st, s.mgmt.staging = some st ∧ fieldU 0 1 p < partCount st.target
        ∧ p.length = partLength st.target (fieldU 0 1 p)
        ∧ (stagePart p s).1 = s.withMgmt { s.mgmt with staging := some { st with
            parts := insertPart (fieldU 0 1 p) (partContent st.target (fieldU 0 1 p) p) st.parts } } := by
  unfold stagePart
  split
  · exact Or.inl rfl
  · split
    · exact Or.inl rfl
    · rename_i st hst
      dsimp only
      split
      · exact Or.inl rfl
      · rename_i h1
        split
        · exact Or.inl rfl
        · rename_i h2; exact Or.inr ⟨st, hst, by omega, by omega, rfl⟩

theorem stageCommit_state (p : List Byte) (s : State) :
    (stageCommit p s).1 = s
      ∨ ∃ st, s.mgmt.staging = some st ∧ missingPart st = none ∧ badValueOf st.parts = none
        ∧ frozen s.run.runState = false
        ∧ (stageCommit p s).1
          = (installTarget st s).withMgmt { (installTarget st s).mgmt with staging := none } := by
  unfold stageCommit
  split
  · exact Or.inl rfl
  · rename_i st hst
    split
    · exact Or.inl rfl
    · rename_i hm
      split
      · exact Or.inl rfl
      · rename_i hb
        split
        · exact Or.inl rfl
        · rename_i hf; exact Or.inr ⟨st, hst, hm, hb, by simpa using hf, rfl⟩

theorem stageDiscard_state (p : List Byte) (s : State) :
    (stageDiscard p s).1 = s
      ∨ (stageDiscard p s).1 = s.withMgmt { s.mgmt with staging := none } := by
  unfold stageDiscard
  split
  · exact Or.inl rfl
  · exact Or.inr rfl

theorem configureHead_state (p : List Byte) (s : State) :
    (configureHead p s).1 = s
      ∨ ∃ h, frozen s.run.runState = false ∧ badHeadField p = none ∧ ¬(fieldU 1 1 p = 0 ∧ fieldU 2 1 p = 1)
        ∧ headOf (fieldU 0 1 p) = some h
        ∧ (configureHead p s).1 = s.withPort h (configurePort p (s.ports.get h)) := by
  unfold configureHead
  split
  · exact Or.inl rfl
  · rename_i hf
    split
    · exact Or.inl rfl
    · rename_i hb
      split
      · exact Or.inl rfl
      · rename_i hc
        split
        · exact Or.inl rfl
        · rename_i h hh; exact Or.inr ⟨h, by simpa using hf, hb, hc, hh, rfl⟩

theorem setMask_state (p : List Byte) (s : State) :
    (setMask p s).1 = s
      ∨ ∃ h, frozen s.run.runState = false
        ∧ (setMask p s).1
          = s.withCorrector h { s.correctors.get h with mask := BitVec.ofNat 64 (fieldU 1 8 p) } := by
  unfold setMask
  split
  · exact Or.inl rfl
  · rename_i hf
    split
    · exact Or.inl rfl
    · rename_i h _; exact Or.inr ⟨h, by simpa using hf, rfl⟩

theorem setOdometry_state (p : List Byte) (s : State) :
    (setOdometry p s).1 = s
      ∨ frozen s.run.runState = false ∧ badOdometryField p = none
        ∧ (setOdometry p s).1 = s.withOdo
          { s.odo with settings := carriedSettings p, interval := startMs (carriedSettings p).interval } := by
  unfold setOdometry
  split
  · exact Or.inl rfl
  · rename_i hf
    split
    · exact Or.inl rfl
    · rename_i hb; exact Or.inr ⟨by simpa using hf, hb, rfl⟩

theorem setRunParameters_state (p : List Byte) (s : State) :
    (setRunParameters p s).1 = s
      ∨ s.run.runState = .unarmed ∧ badParamField p = none
        ∧ (carriedParams p).bogieCentres ≤ (carriedParams p).vehicleLength
        ∧ watermarksOrdered (carriedParams p) = true
        ∧ (setRunParameters p s).1 = s.withRun { s.run with params := carriedParams p, paramsSet := true } := by
  unfold setRunParameters
  split
  · exact Or.inl rfl
  · rename_i hs
    split
    · exact Or.inl rfl
    · rename_i hb
      dsimp only
      split
      · exact Or.inl rfl
      · rename_i hl
        split
        · exact Or.inl rfl
        · rename_i hw
          exact Or.inr ⟨by simpa using hs, hb, by omega, by simpa using hw, rfl⟩

/-- What a request does when it can change only the Route Map. -/
theorem setRouteBase_state (p : List Byte) (s : State) :
    (setRouteBase p s).1 = s
      ∨ s.run.runState = .unarmed
        ∧ (setRouteBase p s).1 = s.withRoute (rebase (fieldI 0 4 p) s.route) := by
  unfold setRouteBase
  dsimp only
  split
  · exact Or.inl rfl
  · rename_i hs
    split
    · exact Or.inl rfl
    · exact Or.inr ⟨by simpa using hs, rfl⟩

theorem clearRouteEntry_state (p : List Byte) (s : State) :
    (clearRouteEntry p s).1 = s
      ∨ fieldU 0 2 p ≤ 511 ∧ (entryAt s.route (fieldU 0 2 p)).references = 0
        ∧ (clearRouteEntry p s).1
          = s.withRoute { s.route with entries := tableSet {} s.route.entries (fieldU 0 2 p) {} } := by
  unfold clearRouteEntry
  dsimp only
  split
  · exact Or.inl rfl
  · rename_i he
    split
    · exact Or.inl rfl
    · rename_i hr
      split
      · exact Or.inl rfl
      · exact Or.inr ⟨by omega, by omega, rfl⟩

theorem eraseEnvelope_state (p : List Byte) (s : State) :
    (eraseEnvelope p s).1 = s
      ∨ frozen s.run.runState = false ∧ fieldU 0 1 p ≤ 63 ∧ namingEntry s.route (fieldU 0 1 p) = none
        ∧ (eraseEnvelope p s).1
          = s.withRoute { s.route with envelopes := tableSet {} s.route.envelopes (fieldU 0 1 p) {} } := by
  unfold eraseEnvelope
  dsimp only
  split
  · exact Or.inl rfl
  · rename_i hf
    split
    · exact Or.inl rfl
    · rename_i hj
      split
      · exact Or.inl rfl
      · rename_i hn
        split
        · exact Or.inl rfl
        · exact Or.inr ⟨by simpa using hf, by omega, hn, rfl⟩

theorem writeRouteEntry_state (p : List Byte) (s : State) :
    (writeRouteEntry p s).1 = s
      ∨ ∃ e : RouteEntry, badEntryField p = none ∧ (entryAt s.route (fieldU 0 2 p)).references = 0
        ∧ (envelopeAt s.route (fieldU 2 1 p)).defined = true
        ∧ e.defined = true ∧ e.envelope = fieldU 2 1 p ∧ e.references = 0
        ∧ (writeRouteEntry p s).1
          = s.withRoute { s.route with entries := tableSet {} s.route.entries (fieldU 0 2 p) e } := by
  unfold writeRouteEntry
  split
  · exact Or.inl rfl
  · rename_i hb
    dsimp only
    split
    · exact Or.inl rfl
    · rename_i hr
      split
      · exact Or.inl rfl
      · rename_i he
        refine Or.inr ⟨_, hb, by omega, by simpa using he, rfl, rfl, ?_, rfl⟩
        show (entryAt s.route (fieldU 0 2 p)).references = 0
        omega

theorem mapCells_state (p : List Byte) (s : State) :
    (mapCells p s).1 = s
      ∨ spanGood (fieldU 0 2 p) (fieldU 2 1 p) = true ∧ lateCell s (fieldU 0 2 p) (fieldU 2 1 p) = none
        ∧ (∀ e ∈ carriedIndices p, e ≤ 511 ∧ (entryAt s.route e).defined = true)
        ∧ (mapCells p s).1 = s.withRoute (mapSpan (fieldU 0 2 p) (carriedIndices p) s.route) := by
  unfold mapCells
  dsimp only
  split
  · exact Or.inl rfl
  · split
    · exact Or.inl rfl
    · rename_i hb
      split
      · exact Or.inl rfl
      · rename_i hl
        split
        · exact Or.inl rfl
        · rename_i hu
          refine Or.inr ⟨?_, hl, ?_, rfl⟩
          · cases hg : spanGood (fieldU 0 2 p) (fieldU 2 1 p)
            · simp [firstBad, hg] at hb
            · rfl
          · intro e he
            simp only [undefinedEntry, Option.map_eq_none_iff, List.findIdx?_eq_none_iff] at hu
            refine ⟨?_, by simpa using hu e he⟩
            have h3 : ((carriedIndices p).all fun e => decide (e ≤ 511)) = true := by
              cases ha : (carriedIndices p).all fun e => decide (e ≤ 511)
              · exfalso
                revert hb
                simp only [firstBad, ha]
                repeat' split
                all_goals simp_all
              · rfl
            simpa using List.all_eq_true.mp h3 e he

theorem unmapCells_state (p : List Byte) (s : State) :
    (unmapCells p s).1 = s
      ∨ spanGood (fieldU 0 2 p) (fieldU 2 1 p) = true ∧ lateCell s (fieldU 0 2 p) (fieldU 2 1 p) = none
        ∧ (unmapCells p s).1 = s.withRoute (unmapSpan (fieldU 0 2 p) (fieldU 2 1 p) s.route) := by
  unfold unmapCells
  dsimp only
  split
  · exact Or.inl rfl
  · rename_i hb
    split
    · exact Or.inl rfl
    · rename_i hl
      refine Or.inr ⟨?_, hl, rfl⟩
      cases hg : spanGood (fieldU 0 2 p) (fieldU 2 1 p)
      · simp [firstBad, hg] at hb
      · rfl

theorem addMarker_state (p : List Byte) (s : State) :
    (addMarker p s).1 = s
      ∨ lateMarker s (fieldI 0 4 p) = none ∧ s.route.markers.length < 256
        ∧ conflictingMarker (fieldI 0 4 p) s.route.markers = none
        ∧ (addMarker p s).1 = s.withRoute { s.route with
            markers := insertMarker ⟨fieldI 0 4 p, fieldU 4 4 p, .unseen⟩ s.route.markers } := by
  unfold addMarker
  dsimp only
  split
  · exact Or.inl rfl
  · split
    · exact Or.inl rfl
    · rename_i hl
      split
      · exact Or.inl rfl
      · rename_i hn
        split
        · exact Or.inl rfl
        · rename_i hc
          exact Or.inr ⟨hl, by simp only [markerCapacity] at hn; omega, hc, rfl⟩

theorem removeMarker_state (p : List Byte) (s : State) :
    (removeMarker p s).1 = s
      ∨ lateMarker s (fieldI 0 4 p) = none
        ∧ (removeMarker p s).1 = s.withRoute { s.route with
            markers := s.route.markers.filter fun n => n.position != fieldI 0 4 p } := by
  unfold removeMarker
  dsimp only
  split
  · exact Or.inl rfl
  · rename_i hl
    split
    · exact Or.inl rfl
    · exact Or.inr ⟨hl, rfl⟩

theorem arm_state (p : List Byte) (s : State) :
    (arm p s).1 = s ∨ s.run.runState = .unarmed ∧ armCheck s = none ∧ (arm p s).1 = prepareRun s := by
  unfold arm
  split
  · exact Or.inl rfl
  · rename_i hs
    split
    · exact Or.inl rfl
    · rename_i hc; exact Or.inr ⟨by simpa using hs, hc, rfl⟩

theorem start_state (p : List Byte) (s : State) :
    (start p s).1 = s ∨ s.run.runState = .armed ∧ (start p s).1
      = startLinkLossIfDown
          (startHeadLoss (s.withRun { s.run with runState := .running, startTime := some s.run.timebase })) := by
  unfold start
  split
  · exact Or.inl rfl
  · rename_i hs; exact Or.inr ⟨by simpa using hs, rfl⟩

theorem stop_state (p : List Byte) (s : State) :
    (stop p s).1 = s ∨ s.run.runState = .running ∧ (stop p s).1 = drain s := by
  unfold stop
  split
  · exact Or.inl rfl
  · rename_i hs; exact Or.inr ⟨by simpa using hs, rfl⟩

theorem resetRun_state (p : List Byte) (s : State) :
    (resetRun p s).1 = s ∨ s.run.runState ≠ .unarmed ∧ (resetRun p s).1 = resetRunEffect s := by
  unfold resetRun
  split
  · exact Or.inl rfl
  · rename_i hs; exact Or.inr ⟨hs, rfl⟩

@[simp] theorem readStatus_state (p : List Byte) (s : State) : (readStatus p s).1 = s := by
  unfold readStatus; split <;> rfl

@[simp] theorem readTable_state (p : List Byte) (s : State) : (readTable p s).1 = s := by
  unfold readTable
  split
  · rfl
  · split
    · unfold withLength readEntry; dsimp only; repeat' split
      all_goals rfl
    · unfold withLength readEnvelope; dsimp only; repeat' split
      all_goals rfl
    · unfold withLength readSpan; dsimp only; repeat' split
      all_goals rfl
    · unfold withLength readMarker; repeat' split
      all_goals rfl
    · unfold withLength readCalibration; repeat' split
      all_goals rfl
    · rfl

end Sys2Proof.Machine
end

