-- ==== Sys2Proof/Laws/Step.lean ====
section
/-! SUPPORT. What one step can do, and how an invariant of every command becomes an invariant of every step. -/

namespace Sys2Proof.Machine

/-- Every command answers a next state. -/
theorem exec_next (c : Instr) (s : State) : ∃ t, exec c s = .next t := by
  cases c <;> exact ⟨_, rfl⟩

/-- All that a step can do: idle on an empty queue, or the effect of the front command. -/
theorem step_cases {s t : State} (h : step s = .next t) :
    (s.pending = [] ∧ t = s) ∨ ∃ c rest, s.pending = c :: rest ∧ exec c (s.withPending rest) = .next t := by
  unfold step at h
  split at h
  · rename_i e
    exact Or.inl ⟨e, (Host.Outcome.next.inj h).symm⟩
  · rename_i c rest e
    exact Or.inr ⟨c, rest, e, h⟩

/-- A property that does not look at the queue of commands, and that every command keeps, is kept by every step. -/
theorem step_keeps (P : State → Prop) (hp : ∀ s cs, P s → P (s.withPending cs))
    (he : ∀ c s t, P s → exec c s = .next t → P t) {s t : State} (hs : P s) (h : step s = .next t) : P t := by
  rcases step_cases h with ⟨-, rfl⟩ | ⟨c, rest, -, h'⟩
  · exact hs
  · exact he c _ t (hp s rest hs) h'

/-- A property is kept by the taking of a request when some `Q` holds once the claim is set, the body keeps `Q`, and the
answer makes the property of it again. -/
theorem takeRequest_keeps {P Q : State → Prop} {isKind : Nat → Bool} {body : List Byte → State → State × Reply} {s : State}
    (h1 : ∀ r rest, P s → Ready s r rest → Q (beginTaking rest s))
    (h2 : ∀ p u, Q u → Q (body p u).1)
    (h3 : ∀ u r st p n, Q u → P (answered u r u.mgmt.intake st p n)) (hs : P s) : P (takeRequest isKind body s) := by
  rcases takeRequest_cases isKind body s with h | ⟨r, rest, hr, -, h⟩
  · rw [h]; exact hs
  · rw [h]
    exact h3 _ _ _ _ _ (h2 _ _ (h1 r rest hs hr))

/-- A body of fixed length keeps what the body keeps. -/
theorem withLength_keeps {Q : State → Prop} {n : Nat} {body : List Byte → State → State × Reply}
    (h : ∀ p u, Q u → Q (body p u).1) (p : List Byte) (u : State) (hu : Q u) : Q (withLength n body p u).1 := by
  rcases withLength_cases n body p u with e | ⟨-, e⟩
  · rw [e]; exact hu
  · rw [e]; exact h p u hu

/-- The bodies of the twenty-six requests, by kind code (R198). -/
def requestBody : Nat → List Byte → State → State × Reply
  | 1 => withLength 0 fun _ s => accept identification s
  | 2 => withLength 4 setTime
  | 3 => withLength 1 readStatus
  | 4 => readTable
  | 5 => withLength 2 stageOpen
  | 6 => stagePart
  | 7 => withLength 0 stageCommit
  | 8 => withLength 0 stageDiscard
  | 9 => withLength 11 configureHead
  | 10 => withLength 9 setMask
  | 11 => withLength 33 setOdometry
  | 12 => withLength 4 setRouteBase
  | 13 => withLength 9 writeRouteEntry
  | 14 => withLength 2 clearRouteEntry
  | 15 => withLength 1 eraseEnvelope
  | 16 => mapCells
  | 17 => withLength 3 unmapCells
  | 18 => withLength 8 addMarker
  | 19 => withLength 4 removeMarker
  | 20 => withLength 31 setRunParameters
  | 21 => withLength 0 arm
  | 22 => withLength 0 start
  | 23 => withLength 0 stop
  | 24 => withLength 0 resetRun
  | 25 => withLength 1 setLevelFloor
  | 26 => withLength 1 ackFault
  | _ => fun _ s => refuse .badKind [] s

/-- The commands by what they do: the taking of a request of a kind, the taking of a request of no kind, or another event. -/
inductive Course (c : Instr) (s : State) : State → Prop where
  | taking (k : Nat) : 1 ≤ k → k ≤ 26 → exec c s = .next (takeKind k (requestBody k) s) →
      Course c s (takeKind k (requestBody k) s)
  | unknown : exec c s = .next (takeRequest (fun k => !definedKind k) (fun _ s => refuse .badKind [] s) s) →
      Course c s (takeRequest (fun k => !definedKind k) (fun _ s => refuse .badKind [] s) s)
  | powerOn (lines : PowerLines) : c = .powerOn lines → Course c s (powerOnWith lines s)
  | resetInput : c = .resetInput → Course c s (powerOnWith (linesOf s) s)
  | headCarrierLoss (p : HeadId) : c = .headCarrierLoss p →
      Course c s (endEvent (leftFrom (s.ports.get p).state (s.withPort p (portCarrierLoss (s.ports.get p)))))
  | headCarrierGain (p : HeadId) : c = .headCarrierGain p →
      Course c s (endEvent (s.withPort p (portCarrierGain (s.ports.get p))))
  | headFrameTooLong (p : HeadId) : c = .headFrameTooLong p → Course c s (endEvent (frameTooLong p s))
  | headFrameDiscarded (p : HeadId) (kind : Byte) (payload : List Byte) (crc : BitVec 16) :
      c = .headFrameDiscarded p kind payload crc → Course c s (endEvent (frameDiscarded p kind payload crc s))
  | slice (p : HeadId) (payload : List Byte) : c = .slice p payload → Course c s (endEvent (sliceArrives p payload s))
  | headStatus (p : HeadId) (payload : List Byte) : c = .headStatus p payload →
      Course c s (endEvent (headStatusArrives p payload s))
  | silenceTimerExpiry (p : HeadId) : c = .silenceTimerExpiry p → Course c s (endEvent (silenceExpires p s))
  | encoderTransition (w : Wheel) (p1 p2 : Bool) : c = .encoderTransition w p1 p2 →
      Course c s (endEvent (s.withOdo (encoderAt w p1 p2 s.odo)))
  | odometryIntervalExpiry : c = .odometryIntervalExpiry →
      Course c s (if timerExpires s.odo.interval then endEvent (intervalExpires s) else s)
  | markerDetection : c = .markerDetection → Course c s (endEvent (detectMarker s))
  | closeTimerExpiry (j : Nat) : c = .closeTimerExpiry j → Course c s (closeTimerExpires j s)
  | alertHoldExpiry : c = .alertHoldExpiry →
      Course c s
        (if timerExpires s.comparator.hold then endEvent (s.withComparator (releaseAlert s.comparator)) else s)
  | headLossTimerExpiry : c = .headLossTimerExpiry →
      Course c s (if timerExpires s.faults.headLoss then
        endEvent (takeHardFault .headPorts
          (.headsLost (lowestStation s) s.run.params.headLossLimit (s.ports.map Port.state))
          (s.withFaults { s.faults with headLoss := none })) else s)
  | linkLossTimerExpiry : c = .linkLossTimerExpiry →
      Course c s (if timerExpires s.faults.linkLoss then
        endEvent (takeHardFault .trunkLink
          (.linkLost (lowestStation s) s.run.params.linkLossLimit (occupancy s.queue))
          (s.withFaults { s.faults with linkLoss := none })) else s)
  | trunkLinkDown : c = .trunkLinkDown → Course c s (endEvent (linkDown s))
  | trunkLinkUp : c = .trunkLinkUp → Course c s (endEvent (linkUp s))
  | transmissionComplete : c = .transmissionComplete → Course c s (endEvent (completeTransmission s))
  | trunkFrameTooLong : c = .trunkFrameTooLong → Course c s (endEvent (receiveInbound countBadFrame s))
  | trunkFrameDiscarded (kind : Byte) (payload : List Byte) (crc : BitVec 32) : c = .trunkFrameDiscarded kind payload crc →
      Course c s (endEvent (receiveInbound (trunkFrameDiscarded kind payload crc) s))
  | request (tag kind : Byte) (payload : List Byte) : c = .request tag kind payload →
      Course c s (endEvent (receiveInbound (requestArrives tag kind payload) s))
  | timebaseAdvance : c = .timebaseAdvance → Course c s (endEvent (advanceTime s))

/-- All that a command can do. -/
theorem exec_course {c : Instr} {s t : State} (h : exec c s = .next t) : Course c s t := by
  cases c <;> (have h' := Host.Outcome.next.inj h; subst h')
  case powerOn l => exact .powerOn l rfl
  case resetInput => exact .resetInput rfl
  case headCarrierLoss p => exact .headCarrierLoss p rfl
  case headCarrierGain p => exact .headCarrierGain p rfl
  case headFrameTooLong p => exact .headFrameTooLong p rfl
  case headFrameDiscarded p k pl crc => exact .headFrameDiscarded p k pl crc rfl
  case slice p pl => exact .slice p pl rfl
  case headStatus p pl => exact .headStatus p pl rfl
  case silenceTimerExpiry p => exact .silenceTimerExpiry p rfl
  case encoderTransition w a b => exact .encoderTransition w a b rfl
  case odometryIntervalExpiry => exact .odometryIntervalExpiry rfl
  case markerDetection => exact .markerDetection rfl
  case closeTimerExpiry j => exact .closeTimerExpiry j rfl
  case alertHoldExpiry => exact .alertHoldExpiry rfl
  case headLossTimerExpiry => exact .headLossTimerExpiry rfl
  case linkLossTimerExpiry => exact .linkLossTimerExpiry rfl
  case trunkLinkDown => exact .trunkLinkDown rfl
  case trunkLinkUp => exact .trunkLinkUp rfl
  case transmissionComplete => exact .transmissionComplete rfl
  case trunkFrameTooLong => exact .trunkFrameTooLong rfl
  case trunkFrameDiscarded k pl crc => exact .trunkFrameDiscarded k pl crc rfl
  case request t k pl => exact .request t k pl rfl
  case badKind => exact .unknown rfl
  case timebaseAdvance => exact .timebaseAdvance rfl
  case identify => exact .taking 1 (by decide) (by decide) rfl
  case setTime => exact .taking 2 (by decide) (by decide) rfl
  case readStatus => exact .taking 3 (by decide) (by decide) rfl
  case readTable => exact .taking 4 (by decide) (by decide) rfl
  case stageOpen => exact .taking 5 (by decide) (by decide) rfl
  case stagePart => exact .taking 6 (by decide) (by decide) rfl
  case stageCommit => exact .taking 7 (by decide) (by decide) rfl
  case stageDiscard => exact .taking 8 (by decide) (by decide) rfl
  case configureHead => exact .taking 9 (by decide) (by decide) rfl
  case setMask => exact .taking 10 (by decide) (by decide) rfl
  case setOdometry => exact .taking 11 (by decide) (by decide) rfl
  case setRouteBase => exact .taking 12 (by decide) (by decide) rfl
  case writeRouteEntry => exact .taking 13 (by decide) (by decide) rfl
  case clearRouteEntry => exact .taking 14 (by decide) (by decide) rfl
  case eraseEnvelope => exact .taking 15 (by decide) (by decide) rfl
  case mapCells => exact .taking 16 (by decide) (by decide) rfl
  case unmapCells => exact .taking 17 (by decide) (by decide) rfl
  case addMarker => exact .taking 18 (by decide) (by decide) rfl
  case removeMarker => exact .taking 19 (by decide) (by decide) rfl
  case setRunParameters => exact .taking 20 (by decide) (by decide) rfl
  case arm => exact .taking 21 (by decide) (by decide) rfl
  case start => exact .taking 22 (by decide) (by decide) rfl
  case stop => exact .taking 23 (by decide) (by decide) rfl
  case resetRun => exact .taking 24 (by decide) (by decide) rfl
  case setLevelFloor => exact .taking 25 (by decide) (by decide) rfl
  case ackFault => exact .taking 26 (by decide) (by decide) rfl

/-- All that the body of a request can do to the state: nothing, or the one effect of its rule. -/
theorem requestBody_state (k : Nat) (p : List Byte) (s : State) (P : State → Prop) (h0 : P s)
    (hTime : P (setTime p s).1) (hOpen : P (stageOpen p s).1) (hPart : P (stagePart p s).1) (hCommit : P (stageCommit p s).1)
    (hDiscard : P (stageDiscard p s).1) (hHead : P (configureHead p s).1) (hMask : P (setMask p s).1)
    (hOdo : P (setOdometry p s).1) (hBase : P (setRouteBase p s).1) (hWrite : P (writeRouteEntry p s).1)
    (hClear : P (clearRouteEntry p s).1) (hErase : P (eraseEnvelope p s).1) (hMap : P (mapCells p s).1)
    (hUnmap : P (unmapCells p s).1) (hAdd : P (addMarker p s).1) (hRemove : P (removeMarker p s).1)
    (hParams : P (setRunParameters p s).1) (hArm : P (arm p s).1) (hStart : P (start p s).1) (hStop : P (stop p s).1)
    (hReset : P (resetRun p s).1) (hFloor : P (setLevelFloor p s).1) (hAck : P (ackFault p s).1) :
    P (requestBody k p s).1 := by
  have wl : ∀ (n : Nat) (body : List Byte → State → State × Reply), P (body p s).1 → P (withLength n body p s).1 := by
    intro n body hb
    rcases withLength_cases n body p s with e | ⟨-, e⟩
    · rw [e]; exact h0
    · rw [e]; exact hb
  unfold requestBody
  split
  all_goals first
    | (apply wl; first | assumption | (rw [readStatus_state]; exact h0))
    | assumption
    | (rw [readTable_state]; exact h0)

end Sys2Proof.Machine
end

