-- ==== Sys2Proof/WellFormed.lean ====
section
/-! DEFINITION. Which commands name an event that the part's links can present: a frame's payload is no longer than its
length limit (R21, R165), and a station index lies in the range of R106. `exec` is total and does not consult this. -/

namespace Sys2Proof

/-- The longest head frame payload, that of a SLICE of 256 samples (R21). -/
def maxHeadPayload : Nat := 774

/-- The longest inbound trunk payload: tag, kind and 1,024 bytes (R165). -/
def maxTrunkPayload : Nat := 1026

/-- The largest station index (R106). -/
def maxStation : Nat := 414748364

/-- The form check of a command's operands. -/
def Instr.wellFormed : Instr → Bool
  | .headFrameDiscarded _ _ payload _ => payload.length ≤ maxHeadPayload
  | .slice _ payload => payload.length ≤ maxHeadPayload
  | .headStatus _ payload => payload.length ≤ maxHeadPayload
  | .closeTimerExpiry station => station ≤ maxStation
  | .trunkFrameDiscarded _ payload _ => payload.length ≤ maxTrunkPayload
  | .request _ _ payload => payload.length + 2 ≤ maxTrunkPayload
  | .powerOn _ => true
  | .resetInput => true
  | .headCarrierLoss _ => true
  | .headCarrierGain _ => true
  | .headFrameTooLong _ => true
  | .silenceTimerExpiry _ => true
  | .encoderTransition _ _ _ => true
  | .odometryIntervalExpiry => true
  | .markerDetection => true
  | .alertHoldExpiry => true
  | .headLossTimerExpiry => true
  | .linkLossTimerExpiry => true
  | .trunkLinkDown => true
  | .trunkLinkUp => true
  | .transmissionComplete => true
  | .trunkFrameTooLong => true
  | .badKind => true
  | .identify => true
  | .setTime => true
  | .readStatus => true
  | .readTable => true
  | .stageOpen => true
  | .stagePart => true
  | .stageCommit => true
  | .stageDiscard => true
  | .configureHead => true
  | .setMask => true
  | .setOdometry => true
  | .setRouteBase => true
  | .writeRouteEntry => true
  | .clearRouteEntry => true
  | .eraseEnvelope => true
  | .mapCells => true
  | .unmapCells => true
  | .addMarker => true
  | .removeMarker => true
  | .setRunParameters => true
  | .arm => true
  | .start => true
  | .stop => true
  | .resetRun => true
  | .setLevelFloor => true
  | .ackFault => true
  | .timebaseAdvance => true

end Sys2Proof
end

