-- ==== Sys2Proof/Tests/Slice0.lean ====
section
/-! SUPPORT. The model's own tests: the form check, worked examples of spec/ as single steps, and for every statement of
Certificates/Slice0/Obligations.lean that has hypotheses a concrete input that meets them, clause by clause. -/

namespace Sys2Proof.Tests

open Sys2Proof Sys2Proof.Machine

-- One theorem after the other: each kernel evaluation below waits for the theorems before it.
set_option Elab.async false

/-! ### The form check -/

/-- A head frame of 775 payload bytes is longer than R21 lets any be. -/
theorem test_form_discarded : (Instr.headFrameDiscarded .h0 1 (List.replicate 775 0) 0).wellFormed = false := by
  decide +kernel

/-- The same for a SLICE. -/
theorem test_form_slice : (Instr.slice .h1 (List.replicate 775 0)).wellFormed = false := by decide +kernel

/-- The same for a HEAD STATUS. -/
theorem test_form_status : (Instr.headStatus .h2 (List.replicate 775 0)).wellFormed = false := by decide +kernel

/-- No context has a station above 414,748,364 (R106). -/
theorem test_form_station : (Instr.closeTimerExpiry 414748365).wellFormed = false := by decide +kernel

/-- A trunk frame of 1,027 payload bytes is longer than R165 lets any be. -/
theorem test_form_trunk : (Instr.trunkFrameDiscarded 32 (List.replicate 1027 0) 0).wellFormed = false := by decide +kernel

/-- A request carries at most 1,024 payload bytes (R165). -/
theorem test_form_request : (Instr.request 1 1 (List.replicate 1025 0)).wellFormed = false := by decide +kernel

/-! ### Small machines -/

/-- A port that streams, with its silence timer run out. -/
def streaming : Port :=
  { state := .streaming, classCode := 1, enable := true, expected := some 256, revolution := some 900, silence := some 0 }

/-- An enabled port with the head's class and no slice yet. -/
def waiting : Port := { state := .waiting, classCode := 1, enable := true }

/-- The route data of the small machines: one envelope, one entry naming it, one cell mapped to the entry, one marker. -/
def route : RouteMap :=
  { cells := [(0, some 3)]
    entries := [(3, { defined := true, envelope := 5, references := 1 })]
    envelopes := [(5, { defined := true, centreHeight := 20000 })]
    markers := [⟨1000, 7, .unseen⟩] }

/-- A machine in a run state: HP0 streams, HP1 waits, wheel scales and parameters set, the link UP. -/
def machine (state : RunState) : State :=
  { State.reset with
    run := { runState := state, runNumber := 12, paramsSet := true }
    ports := ⟨streaming, waiting, {}⟩
    correctors := ⟨{ calibration := { defined := true } }, { calibration := { defined := true } }, {}⟩
    odo := { settings := { scaleA := 65536, scaleB := 65536 } }
    route := route
    queue := { linkUp := true } }

/-- An open context of a station. -/
def context (station : Nat) : Context :=
  { station := station, centre := 0, openTime := 0, timer := some 0, copy := .outside }

/-- A machine in RUNNING with one context open. -/
def surveying : State :=
  { machine .running with assembler := { contexts := [context 4], closedLine := 4, sequence := 0 } }

/-- A machine whose intake holds one request of a kind code. -/
def asked (s : State) (code : Nat) (payload : List Byte) : State :=
  { s with mgmt := { s.mgmt with intake := [⟨5, BitVec.ofNat 8 code, payload⟩] } }

/-- That request can be taken. -/
theorem asked_takes (s : State) (code : Nat) (payload : List Byte) (h : occupancy s.queue + 1040 ≤ 65536) :
    Takes (asked s code payload) code payload ⟨5, BitVec.ofNat 8 code, payload⟩ [] :=
  ⟨⟨rfl, h⟩, rfl, rfl⟩

/-- The state after a command, for tests on commands that answer next. -/
def after (c : Instr) (s : State) : State :=
  match exec c s with
  | .next t => t
  | .fault f => nomatch f
  | .refused _ => s

/-- The status and payload of the last record of the control list, where it is a RESPONSE. -/
def lastAnswer (s : State) : Option (Status × List Byte) :=
  match s.queue.control.getLast? with
  | some (.response r) => some (r.status, r.payload)
  | some (.profile _ _) => none
  | some (.points _) => none
  | some (.intrusion _) => none
  | some (.event _) => none
  | some (.runEnd _) => none
  | none => none

/-- A PROFILE header with nothing to tell. -/
def header : ProfileHeader :=
  { sequence := 900, station := 8, flags := {}, openTime := 0, closeTime := 0, frames := 0, slices := ⟨0, 0, 0⟩
    spans := ⟨0, 0, 0⟩, entry := none, envelope := none, inner := 0, outer := 0, leastMargin := none, leastSector := none
    runCount := 0, maxDepth := none, voidCount := 0, nearCount := 0, intrusionCount := 0 }

/-- An EVENT record of 32 bytes. -/
def event : Record := .event ⟨.odometry, 0, 0, .unknownMarker 5000⟩

/-- A RUN_END record of the small machines' run. -/
def runEnd : RunEndRecord := ⟨12, .stopped, none, none, 0, none, {}, 0, 0⟩

/-- An INTRUSION record with one run. -/
def intrusion : IntrusionRecord := ⟨1, 8, 0, 0, none, none, 1, some 5, false, false, false, [⟨0, 0, 1, 5, 0, 5⟩]⟩

/-- A queue without a byte free: 2,048 EVENT records of 32 bytes (R144, R146). -/
def fullQueue : Outbound := { control := List.replicate 2048 event }

/-- A machine with that queue. -/
def full : State := { machine .running with queue := fullQueue }

/-- A point list of two points. -/
def points : List CorrectedPoint := [⟨0, 100, 100, 20000, 9⟩, ⟨0, 101, 101, 20000, 9⟩]

/-! ### Bytes, codes and records -/

/-- The published check values of CRC-16/CCITT-FALSE and CRC-32 over the nine digits: the polynomials, starts and
reflections of R197 and R198 are theirs (PRESUMED; spec/ gives no value). -/
theorem test_crc_check_values :
    crc16 [49, 50, 51, 52, 53, 54, 55, 56, 57] = 0x29B1#16 ∧ crc32 [49, 50, 51, 52, 53, 54, 55, 56, 57] = 0xCBF43926#32 := by
  decide +kernel

/-- R196: least significant byte first, two's complement. -/
theorem test_byte_order : encU 4 0x01020304 = [4, 3, 2, 1] ∧ encI 2 (-2) = [254, 255] := by decide +kernel

/-- R144: the sizes of the records. -/
theorem test_record_sizes :
    recordSize (.profile header .summary) = 48 ∧ recordSize event = 32 ∧ recordSize (.runEnd runEnd) = 64
      ∧ recordSize (.intrusion intrusion) = 32 ∧ (recordBytes (.runEnd runEnd)).length = 64 := by
  decide +kernel

/-! ### Worked examples -/

/-- Section 2.11: in WAITING a slice from index 512 is counted UNSYNCED. -/
theorem test_slice_unsynced :
    (after (.slice .h1 (slicePayload 899 512 [⟨5, 5⟩])) (machine .armed)).ports.h1.unsynced = 1 := by decide +kernel

/-- Section 2.11: a slice from index 0 synchronises; the next index is expected. -/
theorem test_slice_synchronises :
    (after (.slice .h1 (slicePayload 900 0 (List.replicate 256 ⟨5, 5⟩))) (machine .armed)).ports.h1.expected = some 256 := by
  decide +kernel

/-- R29: a FAULT status takes the port to FAULTED and leaves an EVENT record. -/
theorem test_head_fault :
    (after (.headStatus .h0 (statusPayload .fault (-5) 9)) (machine .armed)).ports.h0.state = .faulted := by decide +kernel

/-- R30: a WARN status sets the warn flag, once with an event. -/
theorem test_head_warn :
    (after (.headStatus .h0 (statusPayload .warn 41 17)) (machine .armed)).ports.h0.warn = true := by decide +kernel

/-- R28: the silence timer's expiry takes the port to SILENT. -/
theorem test_silence : (after (.silenceTimerExpiry .h0) (machine .armed)).ports.h0.state = .silent := by decide +kernel

/-- R24: carrier loss is counted, and gain leads to WAITING with enable set. -/
theorem test_carrier :
    (after (.headCarrierLoss .h1) (machine .armed)).ports.h1.carrierLosses = 1
      ∧ (after (.headCarrierGain .h1) (after (.headCarrierLoss .h1) (machine .armed))).ports.h1.state = .waiting := by
  decide +kernel

/-- R22: a frame whose CRC-16 does not match is counted CRC_BAD; one too long, MALFORMED. -/
theorem test_bad_head_frames :
    (after (.headFrameDiscarded .h0 1 [] 0) (machine .armed)).ports.h0.crcBad = 1
      ∧ (after (.headFrameTooLong .h0) (machine .armed)).ports.h0.malformed = 1 := by
  decide +kernel

/-- Section 3.12: one sample from count to sector. -/
theorem test_sample :
    correctSample
        { cls := headClass 3, yh := 3000, zh := 12000, phi := 1024
          calibration := { knots := [0, 0, 12, 20] ++ List.replicate 13 0 }, mask := 0, centreHeight := 20000 }
        1024 ⟨5000, 200⟩ = .accepted ⟨31, 16903, 548, 36895, 200⟩ := by
  decide +kernel

/-- Section 3.13: one slice through classification, its six courses but the accepted one's point. -/
theorem test_slice_courses :
    (correctFrom
        { cls := headClass 5, yh := 0, zh := 0, phi := 0
          calibration := { knots := [-10, -4, 0, 0, -6] ++ List.replicate 12 0, intensityFloor := 20 }
          mask := 1 <<< 10, centreHeight := 20000 }
        1405 [⟨0, 0⟩, ⟨20000, 90⟩, ⟨61000, 150⟩, ⟨20000, 12⟩, ⟨3, 200⟩]).take 4
      = [.discarded .noReturn, .discarded .occluded, .discarded .saturated, .discarded .weak] := by
  decide +kernel

/-- R47, R52: entries of the table and the sectors of points on the axes and just below one. -/
theorem test_sine_and_sector :
    sine 1088 = 32609 ∧ cosine 1088 = -3212 ∧ sectorOf 5 0 = 0 ∧ sectorOf 0 5 = 32 ∧ sectorOf (-5) 0 = 64
      ∧ sectorOf 0 (-5) = 96 ∧ sectorOf 100000 (-1) = 127 := by
  decide +kernel

/-- R61: (low, low) to (low, high) is a forward step, (low, low) to (high, high) an illegal one. -/
theorem test_encoder :
    (after (.encoderTransition .a false true) State.reset).odo.a.pending = 1
      ∧ (after (.encoderTransition .b true true) State.reset).odo.b.illegal = 1 := by
  decide +kernel

/-- Section 4.12: 100 counts and 98 counts at scale 128,451 give steps of 196 and 192 dmm, and C moves by 194. R77: at a pitch of
100 that reaches one trigger point: one pulse, and the camera line is idle after it. -/
theorem test_interval :
    let s : State :=
      { machine .running with
        odo :=
          { a := { pending := 100 }, b := { pending := 98 }, interval := some 0
            settings := { scaleA := 128451, scaleB := 128451, slewLimit := 30, cameraPitch := 100 } } }
    (after .odometryIntervalExpiry s).odo.c = 194 ∧ (after .odometryIntervalExpiry s).odo.camera = ⟨.idle, 1⟩ := by
  decide +kernel

/-- R73: a marker 1,000 dmm ahead matches, and R takes the difference. -/
theorem test_marker :
    (after .markerDetection (machine .running)).odo.r = 1000
      ∧ (after .markerDetection (machine .armed)).odo.ignored = 1 := by
  decide +kernel

/-- R114: the expired close timer closes its context. -/
theorem test_close_timer :
    (after (.closeTimerExpiry 4) surveying).assembler.closedLine = 5
      ∧ (after (.closeTimerExpiry 4) surveying).run.counters.profilesClosed = 1 := by
  decide +kernel

/-- R141: the hold timer's expiry releases the alert line. -/
theorem test_alert_hold :
    (after .alertHoldExpiry { State.reset with comparator := { alertLine := true, hold := some 0 } }).comparator.alertLine
      = false := by
  decide +kernel

/-- R188, R189: a loss timer's expiry halts the run. -/
theorem test_loss_timers :
    (after .headLossTimerExpiry { surveying with faults := { headLoss := some 0 } }).run.runState = .halted
      ∧ (after .linkLossTimerExpiry { machine .draining with faults := { linkLoss := some 0 } }).run.runState = .halted := by
  decide +kernel

/-- Section 7.9: sectors 31 and 63 on the curve of 150 m. -/
theorem test_clearance :
    let p : RunParams := { bogieCentres := 12000, vehicleLength := 18000 }
    let copy : RouteCopy := .entry ⟨0, 11, 5, 150, 300, .assess, true, 20000⟩
    (assessSector p copy 17200 31 ⟨1, some 16903, ⟨true, false, false⟩⟩).margin = some (-327)
      ∧ (assessSector p copy 24000 63 ⟨1, some 25600, ⟨true, false, false⟩⟩).cls = .near := by
  decide +kernel

/-- Section 10.8: the head-loss expiry halts the run, captures HEADS_LOST with station 812 and closes both contexts. -/
theorem test_run_lost :
    let s : State :=
      { machine .running with
        assembler := { contexts := [context 812, context 813], closedLine := 812, sequence := 812 }
        faults := { headLoss := some 0 } }
    (after .headLossTimerExpiry s).faults.hard.record.map (fun r => (r.kind, r.station)) = some (.headsLost, some 812)
      ∧ (after .headLossTimerExpiry s).assembler.sequence = 814 := by
  decide +kernel

/-- R149: with both lists filled the oldest control record goes first. -/
theorem test_arbiter :
    (after .trunkLinkUp
      { State.reset with queue := { control := [event], data := [.profile header .summary] } }).queue.sending
      = some .control := by
  decide +kernel

/-- R14: the completion of the run's own RUN_END ends a draining run; an abandoned one is offered again. -/
theorem test_transmission :
    let s := { machine .draining with queue := { control := [.runEnd runEnd], sending := some .control, linkUp := true } }
    (after .transmissionComplete s).run.runState = .ended
      ∧ (after .trunkLinkDown s).queue.control = [.runEnd runEnd] := by
  decide +kernel

/-- R166: a request joins the intake; R165: a frame of another kind is counted MALFORMED. -/
theorem test_inbound :
    (after (.request 7 1 []) (machine .unarmed)).mgmt.intake = [⟨7, 1, []⟩]
      ∧ (after (.trunkFrameDiscarded 33 [1, 2] (trunkCrc 33 [1, 2])) (machine .unarmed)).mgmt.malformed = 1
      ∧ (after .trunkFrameTooLong (machine .unarmed)).mgmt.malformed = 1 := by
  decide +kernel

/-- R151, R189: with the trunk link DOWN no request can arrive. -/
theorem test_inbound_down :
    (after (.request 7 24 []) (after .trunkLinkDown (machine .running))).mgmt.intake = [] := by decide +kernel

/-- R178: the identification; R169: kind 27 is BAD_KIND. -/
theorem test_identify :
    (lastAnswer (after .identify (asked State.reset 1 []))).map (fun a => a.2.take 4) = some [66, 17, 3, 5]
      ∧ lastAnswer (after .badKind (asked State.reset 27 [])) = some (.badKind, []) := by
  decide +kernel

/-- R19: SET TIME replaces the timebase. -/
theorem test_set_time : (after .setTime (asked State.reset 2 (encU 4 70000))).run.timebase = 70000 := by decide +kernel

/-- R179, R181: READ STATUS of an undefined section is refused; READ TABLE gives an undefined entry. -/
theorem test_reads :
    lastAnswer (after .readStatus (asked State.reset 3 [11])) = some (.badValue, [1])
      ∧ (lastAnswer (after .readTable (asked State.reset 4 [1, 3, 0]))).map Prod.fst = some .ok := by
  decide +kernel

/-- Section 9.10: STAGE OPEN of envelope 7 answers 4 parts; a part of the wrong length is refused; DISCARD closes it. -/
theorem test_staging :
    lastAnswer (after .stageOpen (asked State.reset 5 [1, 7])) = some (.ok, [4])
      ∧ lastAnswer (after .stagePart (asked State.reset 6 [0])) = some (.notStaged, [])
      ∧ lastAnswer (after .stageCommit (asked State.reset 7 [])) = some (.notStaged, [])
      ∧ (after .stageDiscard
          { asked State.reset 8 [] with mgmt := { (asked State.reset 8 []).mgmt with staging := some ⟨.envelope 7, []⟩ } }
          ).mgmt.staging = none := by
  decide +kernel

/-- R35, R36: CONFIGURE HEAD enables a DISABLED port; R59: SET MASK. -/
theorem test_head_settings :
    (after .configureHead
        (asked { State.reset with ports := ⟨{}, { state := .disabled }, {}⟩ } 9
          (configurePayload .h1 1 true 0 0 0 50))).ports.h1.state = .waiting
      ∧ (after .setMask (asked State.reset 10 [2, 1, 0, 0, 0, 0, 0, 0, 128])).correctors.h2.mask
        = 0x8000000000000001#64 := by
  decide +kernel

/-- R81, R6: a survey part refuses SET ODOMETRY as FROZEN and SET RUN PARAMETERS as STATE. -/
theorem test_frozen :
    lastAnswer (after .setOdometry (asked (machine .running) 11 (odometryPayload {}))) = some (.frozen, [])
      ∧ lastAnswer (after .setRunParameters (asked (machine .running) 20 (paramBytes {}))) = some (.state, []) := by
  decide +kernel

/-- Section 5.11: the window base, an entry, and the cells mapped to it. -/
theorem test_route_requests :
    (after .setRouteBase (asked (machine .unarmed) 12 (encI 4 1000000))).route.base = 1000000
      ∧ (entryAt (after .writeRouteEntry (asked (machine .unarmed) 13 (entryPayload 11 5 150 300 .assess true))).route 11).radius
        = 150
      ∧ (entryAt (after .mapCells (asked (machine .unarmed) 16 (mapPayload 4 [3, 3]))).route 3).references = 3
      ∧ mappedCount (after .unmapCells (asked (machine .unarmed) 17 [0, 0, 1])).route = 0 := by
  decide +kernel

/-- R89: an entry that cells name is IN_USE; R92: so is an envelope that an entry names. -/
theorem test_route_in_use :
    (lastAnswer (after .clearRouteEntry (asked (machine .unarmed) 14 [3, 0]))).map Prod.fst = some .inUse
      ∧ (lastAnswer (after .eraseEnvelope (asked (machine .unarmed) 15 [5]))).map Prod.fst = some .inUse := by
  decide +kernel

/-- R98: a marker less than 10,000 dmm from another conflicts; R99: removal of one that is not there answers 0. -/
theorem test_markers :
    (lastAnswer (after .addMarker (asked (machine .unarmed) 18 (encI 4 10999 ++ encU 4 4)))).map Prod.fst = some .conflict
      ∧ lastAnswer (after .removeMarker (asked (machine .unarmed) 19 (encI 4 5))) = some (.ok, [0, 1, 0]) := by
  decide +kernel

/-- R8 to R11: ARM, START and STOP of an equipped part. -/
theorem test_run_requests :
    (after .arm (asked (machine .unarmed) 21 [])).run.runState = .armed
      ∧ (after .arm (asked (machine .unarmed) 21 [])).run.runNumber = 13
      ∧ (after .start (asked (machine .armed) 22 [])).run.runState = .running
      ∧ (after .stop (asked (machine .running) 23 [])).run.runState = .draining := by
  decide +kernel

/-- R15: RESET RUN leads to UNARMED; R161: the level follows a raised floor; R194: the lost count is cleared. -/
theorem test_reset_run :
    (after .resetRun (asked (machine .halted) 24 [])).run.runState = .unarmed
      ∧ (after .setLevelFloor (asked State.reset 25 [3])).queue.level = 3
      ∧ (after .ackFault (asked { State.reset with faults := { soft := { lock := true, lost := 9 } } } 26 [2])).faults.soft.lost
        = 0 := by
  decide +kernel

/-- R18: the timebase wraps; R2: the reset input and power-on leave UNARMED. -/
theorem test_time_and_reset :
    (after .timebaseAdvance { State.reset with run := { timebase := 4294967295 } }).run.timebase = 0
      ∧ (after .resetInput (machine .running)).run.runState = .unarmed
      ∧ (after (.powerOn ⟨true, false, false, true, false, false, false, false⟩) (machine .running)).ports.h0.state
        = .disabled := by
  decide +kernel

/-- R21, R197: a byte before the sync is passed over, and a HEAD STATUS frame is the command. -/
theorem test_receive_head :
    receiveHead .h2 (171 :: headFrame 2 [0, 20, 0]) = [.headStatus .h2 [0, 20, 0]]
      ∧ receiveTrunk (trunkFrame 32 [7, 1]) = [.request 7 1 []] := by
  decide +kernel

/-- Log 23: no word of the opcode table spells a command. -/
theorem test_no_words : decodeTableWord 8 0 = none ∧ State.reset.withFetchWord 8 0 = State.reset := by decide +kernel

/-! ### Inputs that meet the statements' hypotheses, clause by clause -/

/-- A command in front, and none. -/
theorem witness_StepTakesFrontCommand :
    ({ State.reset with pending := [.arm, .start] } : State).pending = [.arm, .start] ∧ State.reset.pending = [] :=
  ⟨rfl, rfl⟩

/-- No port streams in RUNNING; a port in DOWN; a streaming port whose timer has run out, outside RUNNING. -/
theorem witness_PortLeavesByCarrierOrSilence :
    (¬(State.reset.run.runState = .running ∧ (State.reset.ports.get .h0).state = .streaming))
      ∧ (State.reset.ports.get .h2).state = .down
      ∧ ((machine .armed).ports.get .h0).state = .streaming ∧ ((machine .armed).ports.get .h0).silence = some 0
      ∧ ((machine .armed).ports.get .h0).expected = some 256 ∧ ((machine .armed).ports.get .h0).revolution = some 900
      ∧ (machine .armed).run.runState ≠ .running := by
  decide +kernel

/-- A streaming port in RUNNING: the last one, with a context open; and, with none open, the last one and one that is not. -/
theorem witness_LastStreamingPortStartsHeadLoss :
    let s := machine .running
    let u : State := { s with ports := ⟨streaming, streaming, {}⟩ }
    (∀ x ∈ [surveying, s, u],
      x.run.runState = .running ∧ (x.ports.get .h0).state = .streaming ∧ x.faults.headLoss = none
        ∧ (x.ports.get .h0).silence = some 0 ∧ (x.ports.get .h0).expected = some 256
        ∧ (x.ports.get .h0).revolution = some 900)
      ∧ surveying.assembler.contexts ≠ [] ∧ s.assembler.contexts = [] ∧ u.assembler.contexts = []
      ∧ (s.ports.get .h1).state ≠ .streaming ∧ (s.ports.get .h2).state ≠ .streaming
      ∧ HeadId.h1 ≠ .h0 ∧ (u.ports.get .h1).state = .streaming
      ∧ (-128 : Int) ≤ -128 ∧ (127 : Int) ≤ 127 ∧ 255 ≤ 255 := by
  decide +kernel

/-- A departure that releases the context it held back, with no reason flag: HP1 has passed the station, HP0 has not. -/
theorem test_departure_closes :
    (after (.headCarrierLoss .h0)
        { surveying with
          ports := ⟨streaming, streaming, {}⟩
          assembler := { surveying.assembler with lastStation := ⟨some 4, some 5, none⟩ } }).assembler.contexts = [] := by
  decide +kernel

/-- The longest payload, and slices of every malformed length and span at its boundary. -/
theorem witness_BadHeadFrames :
    (List.replicate 774 (0 : Byte)).length ≤ 774
      ∧ (∀ payload ∈ [[], [1, 2, 3, 4, 5], slicePayload 1 0 [], slicePayload 1 2048 [⟨1, 1⟩], slicePayload 1 0 [⟨1, 1⟩] ++ [0]],
        payload.length ≤ 774
          ∧ ¬(6 ≤ payload.length ∧ 1 ≤ fieldU 4 2 payload ∧ fieldU 4 2 payload ≤ 256
            ∧ payload.length = 6 + 3 * fieldU 4 2 payload
            ∧ fieldU 2 2 payload + fieldU 4 2 payload ≤ (headClass ((machine .armed).ports.get .h0).classCode).samples))
      ∧ ((machine .armed).ports.get .h0).state ≠ .down ∧ ((machine .armed).ports.get .h0).state ≠ .disabled := by
  decide +kernel

/-- Good slices: 256 samples from index 0, and the last sample of a revolution. -/
theorem witness_slice_from_0 : SliceIsGood 2048 65535 0 (List.replicate 256 ⟨65535, 255⟩) :=
  ⟨by decide, by decide, by decide +kernel, by decide +kernel, by decide +kernel, by decide +kernel⟩

theorem witness_slice_to_end : SliceIsGood 2048 0 2047 [⟨0, 0⟩] :=
  ⟨by decide, by decide, by decide, by decide, by decide, by decide⟩

/-- The slice that the streaming port of the small machines expects. -/
theorem witness_slice_expected : SliceIsGood 2048 900 256 [⟨1000, 9⟩] :=
  ⟨by decide, by decide, by decide, by decide, by decide, by decide⟩

/-- A WAITING port outside RUNNING and in it, for the slices above from index 0 and from another; and a FAULTED one. -/
theorem witness_SliceSynchronises :
    (headClass ((machine .armed).ports.get .h1).classCode).samples = 2048
      ∧ ((machine .armed).ports.get .h1).state = .waiting ∧ (machine .armed).run.runState ≠ .running
      ∧ ((machine .running).ports.get .h1).classCode = 1 ∧ ((machine .running).ports.get .h1).state = .waiting
      ∧ (machine .running).run.runState = .running
      ∧ (({ machine .armed with ports := ⟨{ waiting with state := .faulted }, {}, {}⟩ } : State).ports.get .h0).state
        = .faulted := by
  decide +kernel

/-- A STREAMING port outside RUNNING and in it; of the slices above one follows, one has a gap, one starts a revolution. -/
theorem witness_SliceSequenced :
    (∀ s ∈ [machine .draining, machine .running],
      (headClass (s.ports.get .h0).classCode).samples = 2048 ∧ (s.ports.get .h0).state = .streaming
        ∧ (s.ports.get .h0).expected = some 256 ∧ (s.ports.get .h0).revolution = some 900)
      ∧ (machine .draining).run.runState ≠ .running ∧ (machine .running).run.runState = .running := by
  decide +kernel

/-- Eight contexts open at stations 4 to 11, the closed line at 3. -/
def fullSet : State :=
  { surveying with assembler := { contexts := [4, 5, 6, 7, 8, 9, 10, 11].map context, closedLine := 3 } }

/-- REVERSED; before the start; late below the closed line; and late below a full set; with `witness_slice_expected`. -/
theorem witness_PassedSliceDiscarded :
    ∀ s ∈ [{ machine .running with odo := { reversed := true } },
        { machine .running with odo := { c := -1 } },
        { surveying with odo := { c := 3999 } },
        { fullSet with odo := { c := 3999 } }],
      (headClass (s.ports.get .h0).classCode).samples = 2048 ∧ (s.ports.get .h0).state = .streaming
        ∧ (s.ports.get .h0).expected = some 256 ∧ (s.ports.get .h0).revolution = some 900 ∧ s.run.runState = .running
        ∧ (s.odo.reversed = true ∨ stationOf s.run.params s.odo.c < s.assembler.closedLine
          ∨ (8 ≤ s.assembler.contexts.length ∧ ∀ c ∈ s.assembler.contexts, stationOf s.run.params s.odo.c < c.station)) := by
  decide +kernel

/-- The last of them is not behind the closed line: only the full set discards it. -/
theorem witness_PassedSliceDiscarded_full :
    ¬stationOf fullSet.run.params 3999 < fullSet.assembler.closedLine := by decide +kernel

/-- The state `u` of SlicePlaced, for HP0 and the slice of `witness_slice_expected` at station 4. -/
def placed (s s0 : State) (c : Context) : State :=
  let results := correctFrom (correctionSetup s .h0 c.copy) 256 [⟨1000, 9⟩]
  { s0 with
    ports := s.ports.set .h0
      { streamedPort (s.ports.get .h0) 256 900 900 256 1 with passedOn := inc32 (s.ports.get .h0).passedOn }
    choices := s.choices + 1
    correctors := s.correctors.set .h0 (results.foldl countSample (s.correctors.get .h0))
    assembler :=
      { s0.assembler with
        contexts := s0.assembler.contexts.map fun d =>
          if d.station = 4 then
            accumulate .h0 (acceptedPoints results)
              { d with
                tallies := d.tallies.set .h0
                  { slices := min 65535 ((d.tallies.get .h0).slices + 1)
                    first := if (d.tallies.get .h0).slices = 0 then some 900 else (d.tallies.get .h0).first
                    last := some 900 }
                worst := worseMode d.worst s.odo.mode
                warnSeen := d.warnSeen || (s.ports.get .h0).warn
                gapSeen := d.gapSeen || (s.ports.get .h0).gapReported
                timer := some (1000 * s.run.params.closeTimeout) }
          else d
        lastStation := s.assembler.lastStation.set .h0
          (some (match s.assembler.lastStation.get .h0 with | none => 4 | some k => max k 4)) } }

/-- A slice at the first and at the last chainage of station 4, into its open context. No streaming head has passed the station,
so no context meets the progress condition. -/
theorem witness_SlicePlaced_open :
    ∀ s ∈ [{ surveying with odo := { c := 4000 } }, { surveying with odo := { c := 4999 } }],
      (s.ports.get .h0).state = .streaming ∧ (s.ports.get .h0).expected = some 256 ∧ (s.ports.get .h0).revolution = some 900
        ∧ s.run.runState = .running ∧ s.odo.reversed = false ∧ stationOf s.run.params s.odo.c = (4 : Nat)
        ∧ s.assembler.closedLine ≤ 4 ∧ contextFor 4 s ≠ none ∧ contextFor 4 s = some (context 4)
        ∧ ∀ d ∈ (placed s s (context 4)).assembler.contexts, progressHolds (placed s s (context 4)) d.station = false := by
  decide +kernel

/-- The same slice where the context of station 4 is opened now. -/
theorem witness_SlicePlaced_opened :
    let s : State := { machine .running with odo := { c := 4000 } }
    let s0 := openContext 4 s
    (s.ports.get .h0).state = .streaming ∧ (s.ports.get .h0).expected = some 256 ∧ (s.ports.get .h0).revolution = some 900
      ∧ s.run.runState = .running ∧ s.odo.reversed = false ∧ stationOf s.run.params s.odo.c = (4 : Nat)
      ∧ s.assembler.closedLine ≤ 4 ∧ contextFor 4 s = none ∧ s.assembler.contexts.length < 8
      ∧ contextFor 4 s0 = some (newContext s 4)
      ∧ ∀ d ∈ (placed s s0 (newContext s 4)).assembler.contexts,
        progressHolds (placed s s0 (newContext s 4)) d.station = false := by
  decide +kernel

/-- A full set and a slice beyond it: the oldest context is closed FORCED to make room, without a loss. -/
theorem witness_SlicePlaced_forced :
    let s : State := { fullSet with odo := { c := 12000 } }
    let s0 := openContext 12 (closures (fun _ => some .forced) [context 4] { s with choices := s.choices + 1 }).1
    stationOf s.run.params 12000 = (12 : Nat)
      ∧ s.run.runState = .running ∧ s.odo.reversed = false ∧ s.assembler.closedLine ≤ 12 ∧ contextFor 12 s = none
      ∧ 8 ≤ s.assembler.contexts.length ∧ s.assembler.contexts.head? = some (context 4) ∧ (context 4).station < 12
      ∧ (contextFor 12 s0).isSome = true ∧ s0.assembler.contexts.length = 8 := by
  decide +kernel

/-- The contexts of the small machines in station order, at either end of which and within which a station may be opened. -/
theorem witness_SlicePlaced_openContext :
    ∀ j ∈ [0, 4, 6], let cs := [context 3, context 5]
      cs.Pairwise (fun c d => c.station < d.station) ∧ contextFor j { surveying with assembler := { contexts := cs } } = none := by
  decide +kernel

/-- Ports in every state that the rows of R29 and R30 distinguish, and the ends of the temperature and code ranges. -/
theorem witness_HeadStatusActs :
    (∀ port ∈ [streaming, waiting, { waiting with state := .faulted, warn := true }, { waiting with state := .silent }],
      port.state ≠ .down ∧ port.state ≠ .disabled)
      ∧ streaming.state ≠ .faulted ∧ streaming.warn = false
      ∧ ¬((machine .armed).run.runState = .running ∧ ((machine .armed).ports.get .h0).state = .streaming)
      ∧ (-128 : Int) ≤ -128 ∧ (127 : Int) ≤ 127 ∧ 255 ≤ 255 := by
  decide +kernel

/-- Frames of the limit length behind a byte that begins no sync. -/
theorem witness_FramesReadBack :
    (∀ i : Nat, ¬(([171#8] : List Byte)[i]? = some 171#8 ∧ ([171#8] : List Byte)[i + 1]? = some 205#8))
      ∧ (List.replicate 774 (205 : Byte)).length ≤ 774
      ∧ (∀ i : Nat, ¬(([90#8] : List Byte)[i]? = some 90#8 ∧ ([90#8] : List Byte)[i + 1]? = some 195#8))
      ∧ (List.replicate 1024 (195 : Byte)).length ≤ 1024 :=
  ⟨by intro i; simp, List.length_replicate.le, by intro i; simp, List.length_replicate.le⟩

/-- The point straight to the right, and the last accepted radius with its sector. -/
theorem witness_SectorOfExactDirection :
    ((0 : ℝ) ≤ 0 ∧ (0 : ℝ) < 65536 ∧ (0 : ℝ) < 1 ∧ ((1 : ℤ) : ℝ) = 1 * Real.cos (2 * Real.pi * 0 / 65536)
        ∧ ((0 : ℤ) : ℝ) = 1 * Real.sin (2 * Real.pi * 0 / 65536))
      ∧ correctSample ⟨headClass 3, 0, 0, 0, {}, 0, 0⟩ 0 ⟨1000, 9⟩ = .accepted ⟨0, 5000, 5000, 0, 9⟩ :=
  ⟨by norm_num, by decide +kernel⟩

/-- The three rows of the placing: the centre, an accepted point and one beyond 205,000. -/
theorem witness_RadiusIsWholeDistance :
    placePoint ⟨headClass 3, 0, 0, 0, {}, 0, 0⟩ 0 0 9 = .discarded .centre
      ∧ placePoint ⟨headClass 3, 0, 0, 0, {}, 0, 0⟩ 5000 1024 9 = .accepted ⟨32, 5000, 0, 5000, 9⟩
      ∧ placePoint ⟨headClass 3, 200000, 0, 0, {}, 0, 0⟩ 100000 0 9 = .discarded .far := by
  decide +kernel

/-- The last table index. -/
theorem witness_SineTableIsNearest : 4095 < 4096 ∧ sine 4095 = -50 := by decide +kernel

/-- Seventeen knots, and ranges at a knot and at the end of the last band. -/
theorem witness_SampleCourse :
    (List.replicate 17 (12 : Int)).length = 17 ∧ 0 < 160000 ∧ 10000 % 10000 = 0 ∧ 159999 < 160000 := by decide

/-- An interval that expires in UNARMED and in ARMED, and one that does not. -/
theorem witness_OdometryInterval_outside :
    State.reset.odo.interval ≠ some 0
      ∧ ∀ s ∈ [{ machine .unarmed with odo := { interval := some 0 } }, { machine .armed with odo := { interval := some 0 } }],
        s.odo.interval = some 0 ∧ s.run.runState ≠ .running ∧ s.run.runState ≠ .draining := by
  decide +kernel

/-- A survey about to take an interval, with an Odometry Unit and a run direction. -/
def travelling (o : Odometry) (direction : Direction := .up) : State :=
  { machine .running with
    run := { (machine .running).run with params := { direction := direction } }
    odo := { o with interval := some 0, settings := { scaleA := 65536, scaleB := 65536, cameraPitch := 100 } } }

/-- Intervals of a survey: at rest and at speed in both run directions; a wheel at the loss distance; a LOST wheel at its eighth
agreeing interval; a slip entered and one left; a reversal; and a marker passed. All within the law of the wheels. -/
def intervals : List State :=
  [travelling {}, travelling { a := { pending := 100 }, b := { pending := 100 } },
    travelling { a := { pending := 100 }, b := { pending := 100 } } .down,
    travelling { a := { silentTravel := 19900 }, b := { pending := 100 } },
    travelling { a := { status := .lost, pending := 100 }, b := { pending := 90 }, agreement := 7 },
    travelling { a := { pending := 900 }, b := { pending := 100 } },
    travelling { a := { pending := 100 }, b := { pending := 100 }, filterMode := .slip, slipFilter := 2000 },
    travelling { a := { pending := -300 }, b := { pending := -300 } },
    travelling { a := { pending := 20 }, b := { pending := 20 }, c := 5990, h := 5990 }]

theorem witness_OdometryInterval_survey :
    ∀ s ∈ intervals,
      let o := s.odo
      let x := o.settings
      let dA : Int := (o.a.remainder + o.a.pending * x.scaleA) / 65536
      let dB : Int := (o.b.remainder + o.b.pending * x.scaleB) / 65536
      let silentA := if o.a.pending ≠ 0 then 0 else min 4294967295 (o.a.silentTravel + dB.natAbs)
      let silentB := if o.b.pending ≠ 0 then 0 else min 4294967295 (o.b.silentTravel + dA.natAbs)
      o.interval = some 0 ∧ s.run.runState = .running ∧ 1 ≤ x.lossDistance
        ∧ ¬(x.lossDistance ≤ silentA ∧ x.lossDistance ≤ silentB) ∧ cameraLaw o ∧ wheelLaw o := by
  unfold cameraLaw wheelLaw; decide +kernel

/-- R65, R66, R67, R71, R76: what those intervals do, by the soft fault of each kind or by the wheel's state. -/
theorem test_interval_modes :
    (intervals.map fun s => (after .odometryIntervalExpiry s).faults.soft.record.map FaultRecord.kind)
        = [none, none, none, some .wheelLost, none, some .slip, none, some .reversal, some .missedMarker]
      ∧ (after .odometryIntervalExpiry (intervals.getD 4 State.reset)).odo.a.status = .present
      ∧ (after .odometryIntervalExpiry (intervals.getD 6 State.reset)).odo.filterMode = .normal := by
  decide +kernel

/-- Outside a survey; debounced at 4,999 dmm; none in the window; a marker chosen that is matched already. -/
theorem witness_MarkerDetected :
    (¬(State.reset.run.runState = .running ∨ State.reset.run.runState = .draining))
      ∧ (let s : State := { machine .running with odo := { debounce := some 4999 } }
        s.run.runState = .running ∧ s.odo.debounce = some 4999 ∧ 4999 < 5000)
      ∧ (let s : State := { machine .draining with odo := { c := 6001, debounce := some 5000 } }
        s.run.runState = .draining ∧ s.odo.debounce = some 5000
          ∧ ∀ m ∈ s.route.markers, s.odo.settings.captureWindow < (m.position - s.odo.c).natAbs)
      ∧ chosenMarker { machine .running with route := { route with markers := [⟨5000, 7, .matched⟩] } }
        = some ⟨5000, 7, .matched⟩ := by
  decide +kernel

/-- A first match; one too near the last; and a recalibration at the baseline with U negative, good and out of range. -/
theorem witness_MarkerMatched :
    chosenMarker (machine .running) = some ⟨1000, 7, .unseen⟩ ∧ (machine .running).odo.debounce = none
      ∧ (machine .running).odo.lastMatched = none
      ∧ ((1000 : Int) - 900000).natAbs < (machine .running).odo.settings.recalBaseline
      ∧ (∀ u ∈ [(0 : Int), 1000000, 1100000],
        let s : State :=
          { machine .running with
            odo :=
              { u := u, lastMatched := some ⟨-999000, 6⟩
                settings := { scaleA := 65536, scaleB := 65536, recalEnable := true } } }
        chosenMarker s = some ⟨1000, 7, .unseen⟩ ∧ s.odo.settings.recalEnable = true
          ∧ s.odo.settings.recalBaseline ≤ ((1000 : Int) - (-999000)).natAbs)
      ∧ 65536 * 1000000 / 1000000 = 65536 ∧ ¬(65536 ≤ 65536 * 1000000 / 1100000 + 65536 * 2 / 100) := by
  decide +kernel

/-- An open context whose timer has expired, and one whose timer runs. -/
theorem witness_CloseTimerExpires :
    ∀ timer ∈ [(some 0 : Timer), some 1],
      let c : Context := { context 4 with timer := timer }
      let s : State := { surveying with assembler := { contexts := [c], closedLine := 4 } }
      contextLaw s ∧ s.run.runState = .running ∧ c ∈ s.assembler.contexts ∧ c.station = 4 := by
  unfold contextLaw; decide +kernel

/-- Closures one after another, the last of them at station 6; none of them loses an INTRUSION record. -/
theorem witness_CloseTimerExpires_closures :
    [context 4, context 6].getLast? = some (context 6)
      ∧ (closures (fun _ => some .early) [context 4, context 6] surveying).2 = false := by
  decide +kernel

/-- A context with an intrusion in sector 0, and a machine whose holder is full: its closure loses the INTRUSION record. -/
def lossy : State :=
  { surveying with
    route := { route with envelopes := [(5, { defined := true, centreHeight := 20000, limits := List.replicate 128 200 })] }
    assembler :=
      { contexts :=
          [{ context 4 with
            copy := .entry ⟨0, 3, 5, 0, 0, .assess, false, 20000⟩
            sectors := [(0, ⟨1, some 150, ⟨true, false, false⟩⟩)] }] }
    queue := { linkUp := true, holder := [.intrusion intrusion, .intrusion intrusion] } }

theorem witness_CloseTimerExpires_lost :
    (closures (fun _ => some .drained) lossy.assembler.contexts lossy).2 = true
      ∧ lossy.run.counters.intrusionsDropped < 4294967295 := by
  decide +kernel

/-- Loss timers that have expired with the hard slot free and locked, and the alert hold likewise. -/
theorem witness_LossAndHoldTimersExpire :
    (∀ s ∈ [{ surveying with faults := { headLoss := some 0, linkLoss := some 0 } },
        { machine .draining with faults := { headLoss := some 0, linkLoss := some 0, hard := { lock := true } } }],
      s.faults.headLoss = some 0 ∧ s.faults.linkLoss = some 0
        ∧ (s.run.runState = .running ∨ s.run.runState = .draining))
      ∧ ({ State.reset with comparator := { alertLine := true, hold := some 0 } } : State).comparator.hold = some 0
      ∧ State.reset.comparator.hold ≠ some 0 ∧ State.reset.faults.headLoss ≠ some 0 := by
  decide +kernel

/-- A void sector, a sector without assessment, one assessed at the limit itself; and the ends of the ranges of the throws. -/
theorem witness_SectorClearance :
    (({} : SectorAcc).count = 0)
      ∧ (∀ e, RouteCopy.outside = .entry e → e.zone = .noAssess ∨ 17200 = 0)
      ∧ (let e : EntryCopy := ⟨0, 11, 5, 150, 300, .assess, true, 20000⟩
        let acc : SectorAcc := ⟨1, some 17230, ⟨true, false, false⟩⟩
        acc.count ≠ 0 ∧ e.zone = .assess ∧ 17200 ≠ 0 ∧ acc.minRadius = some 17230)
      ∧ (1000 ≤ 1000 ∧ (20 : Int) ≠ 0 ∧ 127 < 128 ∧ 0 < 128 ∧ 5000 ≤ 5000) := by
  refine ⟨rfl, fun e h => (nomatch h), ?_, ?_⟩ <;> decide

/-- A profile with an intrusion run: sector 0 alone falls short of a limit of 200. -/
theorem witness_IntrusionRuns :
    (intrusionRuns (assessSectors {}
        { route with
          envelopes := [(5, { defined := true, centreHeight := 20000, limits := List.replicate 128 200 })] }
        { context 4 with
          copy := .entry ⟨0, 3, 5, 0, 0, .assess, false, 20000⟩
          sectors := [(0, ⟨1, some 150, ⟨true, false, false⟩⟩)] })).map (fun r => (r.first, r.last, r.depth))
      = [(0, 0, 50)] := by
  decide +kernel

/-- With that profile the search starts at sector 1; with every sector short there is no start and one run is the ring. -/
theorem witness_IntrusionRuns_starts :
    let rm : RouteMap :=
      { route with envelopes := [(5, { defined := true, centreHeight := 20000, limits := List.replicate 128 200 })] }
    let ctx (n : Nat) : Context :=
      { context 4 with
        copy := .entry ⟨0, 3, 5, 0, 0, .assess, false, 20000⟩
        sectors := (List.range n).map fun i => (i, ⟨1, some 150, ⟨true, false, false⟩⟩) }
    searchStart (assessSectors {} rm (ctx 1)) = some 1 ∧ searchStart (assessSectors {} rm (ctx 128)) = none
      ∧ leastMargin (assessSectors {} rm (ctx 1)) = some (-50, 0) := by
  decide +kernel

/-- An EVENT record fits an empty queue and does not fit the full one. -/
theorem witness_SoftFaultRaised :
    occupancy (machine .running).queue + holderClaim (machine .running).queue + (machine .running).queue.responseClaim + 32
        ≤ 65536
      ∧ ¬(occupancy full.queue + holderClaim full.queue + full.queue.responseClaim + 32 ≤ 65536) := by
  decide +kernel

/-- The four outcomes: at level 0; at level 4; at level 5; and in the full queue. -/
theorem witness_ProfileOffered :
    nextLevel {} {} = 0 ∧ nextLevel {} { level := 4, floor := 4 } = 4 ∧ nextLevel {} { level := 5, floor := 5 } = 5
      ∧ occupancy { level := 5, floor := 5 } + 560 ≤ 65536
      ∧ ¬(occupancy full.queue + holderClaim full.queue + full.queue.responseClaim + 48 ≤ 65536) := by
  decide +kernel

/-- Points kept and none kept, with and without room. -/
theorem witness_PointsDecimatedAndOffered :
    (decimate 0 0 []).1 = [] ∧ (decimate 0 3 points).1 ≠ [] ∧ 3 < 4 ∧ (State.reset.queue.keep.get .h0) < 4
      ∧ occupancy State.reset.queue + holderClaim State.reset.queue + State.reset.queue.responseClaim + (24 + 7 * 2) ≤ 65536
      ∧ dataOccupancy State.reset.queue + (24 + 7 * 2) ≤ 61440
      ∧ ¬(occupancy full.queue + holderClaim full.queue + full.queue.responseClaim + (24 + 7 * 2) ≤ 65536) := by
  decide +kernel

/-- An empty holder with and without room, one record waiting, and two INTRUSION records waiting. -/
theorem witness_IntrusionWaitsOrIsLost :
    State.reset.queue.holder = [] ∧ occupancy State.reset.queue + State.reset.queue.responseClaim + 88 ≤ 65536
      ∧ full.queue.holder = [] ∧ ¬(occupancy full.queue + full.queue.responseClaim + (24 + 8 * intrusion.runs.length) ≤ 65536)
      ∧ heldIntrusions { fullQueue with holder := [.intrusion intrusion] } < 2
      ∧ 2 ≤ heldIntrusions { fullQueue with holder := [.intrusion intrusion, .intrusion intrusion] } := by
  decide +kernel

/-- Nothing in transmission; a data record; a control record that ends no run; and the run's own RUN_END. -/
theorem witness_TransmissionCompletes :
    State.reset.queue.sending = none
      ∧ (∃ q : Outbound, q.sending = some .data ∧ q.data = [.profile header .summary])
      ∧ (∃ q : Outbound, q.sending = some .control ∧ q.control = [event] ∧ ¬∃ e, event = .runEnd e)
      ∧ ∃ q : Outbound, q.sending = some .control ∧ q.control = [.runEnd runEnd]
        ∧ (machine .draining).run.runState = .draining ∧ runEnd.runNumber = (machine .draining).run.runNumber
        ∧ runEnd.reason = .stopped :=
  ⟨rfl, ⟨{ sending := some .data, data := [.profile header .summary] }, rfl, rfl⟩,
    ⟨{ sending := some .control, control := [event] }, rfl, rfl, fun h => nomatch h⟩,
    ⟨{ sending := some .control, control := [.runEnd runEnd] }, rfl, rfl, rfl, rfl, rfl⟩⟩

/-- The same queues serve the loss of the trunk link; the run's own RUN_END is in transmission with an empty holder. -/
theorem witness_TrunkLinkCarrier :
    let q : Outbound := { sending := some .control, control := [.runEnd runEnd], linkUp := true }
    q.sending = some .control ∧ q.control = [.runEnd runEnd] ∧ (machine .draining).run.runState = .draining
      ∧ runEnd.runNumber = (machine .draining).run.runNumber ∧ q.holder = []
      ∧ occupancy q + q.responseClaim ≤ 65536 := by
  decide +kernel

/-- A FULL profile of 128 sector entries and a COMPACT one of 32 group entries. -/
theorem witness_RecordsHaveTheirSize :
    (List.replicate 128 (⟨none, 0, .void, ⟨false, false, false⟩⟩ : SectorEntry)).length = 128
      ∧ (List.replicate 32 (⟨none, .void, 0⟩ : GroupEntry)).length = 32 := by
  decide +kernel

/-- A link that is UP and one that is DOWN; a frame with a wrong CRC, one of another kind, one without tag and kind, and payloads
of the limit lengths. -/
theorem witness_InboundFrames :
    (machine .running).queue.linkUp = true ∧ State.reset.queue.linkUp = false ∧ (0 : BitVec 32) ≠ trunkCrc 32 [7, 1] ∧ (33 : Byte) ≠ 32 ∧ ([7] : List Byte).length < 2
      ∧ (List.replicate 1026 (0 : Byte)).length ≤ 1026 ∧ (List.replicate 1024 (0 : Byte)).length ≤ 1024 := by
  decide +kernel

/-- IDENTIFY, SET TIME at the ends of its range, and BAD_KIND on either side of the defined kinds. -/
theorem witness_IdentifyTimeAndBadKind :
    (∃ s r rest, Takes s 1 [] r rest) ∧ (∃ s r rest, Takes s 2 (encU 4 0) r rest)
      ∧ (∃ s r rest, Takes s 2 (encU 4 4294967295) r rest)
      ∧ (∃ s r rest, Ready s r rest ∧ r.kind.toNat = 0) ∧ ∃ s r rest, Ready s r rest ∧ 26 < r.kind.toNat :=
  ⟨⟨_, _, _, asked_takes State.reset 1 [] (by decide)⟩, ⟨_, _, _, asked_takes State.reset 2 (encU 4 0) (by decide)⟩,
    ⟨_, _, _, asked_takes State.reset 2 (encU 4 4294967295) (by decide)⟩,
    ⟨_, _, _, (asked_takes State.reset 0 [] (by decide)).ready, by decide⟩,
    ⟨_, _, _, (asked_takes State.reset 27 [] (by decide)).ready, by decide⟩⟩

/-- READ STATUS of the first, the last and no section; READ TABLE of every form at the ends of its range. -/
theorem witness_ReadRequestsAnswer :
    (∀ code ∈ [0, 10, 11, 255], ∃ s r rest, Takes s 3 (encU 1 code) r rest)
      ∧ (∀ payload ∈ [1 :: encU 2 0, 1 :: encU 2 511, 2 :: encU 1 63, 3 :: (encU 2 4095 ++ encU 2 1),
          3 :: (encU 2 3840 ++ encU 2 256), 4 :: encU 2 0, 5 :: encU 1 (headNumber .h2)],
        ∃ r rest, Takes (asked (machine .running) 4 payload) 4 payload r rest)
      ∧ (machine .running).route.markers[0]? = some ⟨1000, 7, .unseen⟩
      ∧ 4294967295 < 256 ^ 4 ∧ (1 ≤ 2 ∧ (-(256 ^ 2 / 2) : Int) ≤ -32768 ∧ (32767 : Int) < 256 ^ 2 / 2) :=
  ⟨fun code _ => ⟨_, _, _, asked_takes State.reset 3 (encU 1 code) (by decide)⟩,
    fun payload _ => ⟨_, _, asked_takes (machine .running) 4 payload (by decide)⟩, rfl, by decide, by decide⟩

/-- A machine with a staging record. -/
def staged (x : Option Staging) : State := { machine .unarmed with mgmt := { staging := x } }

/-- Loads of both targets: opened, filled part by part, committed with limits and knots at their ends, discarded. -/
theorem witness_StagingRequests :
    frozen (staged none).run.runState = false ∧ (staged none).mgmt.staging = none
      ∧ (∃ r rest, Takes (asked (staged none) 5 [1, 63]) 5 (encU 1 1 ++ encU 1 63) r rest)
      ∧ (∃ r rest, Takes (asked (staged none) 5 [2, 2]) 5 (encU 1 2 ++ encU 1 (headNumber .h2)) r rest)
      ∧ (∀ x payload, ∃ r rest, Takes (asked (staged x) 6 payload) 6 payload r rest)
      ∧ (∀ x, ∃ r rest, Takes (asked (staged x) 7 []) 7 [] r rest)
      ∧ (∀ x, ∃ r rest, Takes (asked (staged x) 8 []) 8 [] r rest)
      ∧ (List.replicate 32 4294967295).length = 32 ∧ (List.replicate 17 (-32768 : Int)).length = 17
      ∧ (∀ l ∈ List.replicate 128 200000, l ≤ 200000)
      ∧ ∀ o ∈ List.replicate 17 (-2000 : Int), -2000 ≤ o ∧ o ≤ 2000 :=
  ⟨rfl, rfl, ⟨_, _, asked_takes (staged none) 5 [1, 63] (by decide)⟩,
    ⟨_, _, asked_takes (staged none) 5 [2, 2] (by decide)⟩,
    fun x payload => ⟨_, _, asked_takes (staged x) 6 payload (by show (0 : Nat) + 1040 ≤ 65536; decide)⟩,
    fun x => ⟨_, _, asked_takes (staged x) 7 [] (by show (0 : Nat) + 1040 ≤ 65536; decide)⟩,
    fun x => ⟨_, _, asked_takes (staged x) 8 [] (by show (0 : Nat) + 1040 ≤ 65536; decide)⟩,
    by decide +kernel, by decide +kernel, by decide +kernel, by decide +kernel⟩

/-- Odometry settings at the ends of their ranges. -/
def settings : OdoSettings := ⟨32768, 1310720, 20, 7, 1000, 100000, 500, 50000, 10000, true, 10000000, 100⟩

/-- Settings carried at the ends of their ranges, outside ARMED, RUNNING and DRAINING. -/
theorem witness_SettingsInstalled :
    frozen (machine .unarmed).run.runState = false ∧ settingsInRange settings ∧ settings.scaleA ≠ 0 ∧ settings.scaleB ≠ 0
      ∧ paramsInRange {}
      ∧ paramsInRange ⟨.down, -2000000000, 10, 4, 1000, 60000, 2000000, 30000, 40000, 5000, 10000, 1, 2, 1, 10000, 100⟩
      ∧ (∃ r rest, Takes (asked (machine .unarmed) 9 (configurePayload .h2 6 true (-20000) 20000 65535 5)) 9
        (configurePayload .h2 6 true (-20000) 20000 65535 5) r rest)
      ∧ (∃ r rest, Takes (asked (machine .unarmed) 10 (encU 1 0 ++ leBytes 8 1)) 10
        (encU 1 (headNumber .h0) ++ leBytes 8 (1 : BitVec 64).toNat) r rest)
      ∧ (∃ r rest, Takes (asked (machine .unarmed) 11 (odometryPayload settings)) 11 (odometryPayload settings) r rest)
      ∧ ∃ r rest, Takes (asked (machine .unarmed) 20 (paramBytes {})) 20 (paramBytes {}) r rest := by
  refine ⟨rfl, ?_, by decide, by decide, ?_, ?_, ⟨_, _, asked_takes _ _ _ (by decide)⟩, ⟨_, _, asked_takes _ _ _ (by decide)⟩,
    ⟨_, _, asked_takes _ _ _ (by decide)⟩, ⟨_, _, asked_takes _ _ _ (by decide)⟩⟩
  · unfold settingsInRange scaleInRange; decide
  · unfold paramsInRange; decide
  · unfold paramsInRange; decide

/-- The tables of the small machines are in their canonical form. -/
theorem route_tables : tableLaw route := by
  refine ⟨⟨?_, ?_⟩, ⟨?_, ?_⟩, ⟨?_, ?_⟩, ?_⟩ <;> decide +kernel

/-- A base at either end; an entry written at the ends of its fields, cleared; an envelope erased that no entry names. -/
theorem witness_RouteTablesWritten :
    (machine .unarmed).run.runState = .unarmed ∧ tableLaw (machine .unarmed).route
      ∧ (∃ r rest, Takes (asked (machine .unarmed) 12 (encI 4 (-2000000000))) 12 (encI 4 (-2000000000)) r rest)
      ∧ (entryAt route 511).references = 0 ∧ (envelopeAt route 5).defined = true
      ∧ (20 ≤ (-20 : Int).natAbs ∧ (20000 : Int).natAbs ≤ 20000)
      ∧ (∃ r rest, Takes (asked (machine .running) 13 (entryPayload 511 5 (-20) 5000 .noAssess true)) 13
        (entryPayload 511 5 (-20) 5000 .noAssess true) r rest)
      ∧ (∃ r rest, Takes (asked (machine .running) 14 (encU 2 511)) 14 (encU 2 511) r rest)
      ∧ (∀ x ∈ route.entries, ¬(x.2.defined = true ∧ x.2.envelope = 63))
      ∧ ∃ r rest, Takes (asked (machine .unarmed) 15 (encU 1 63)) 15 (encU 1 63) r rest :=
  ⟨rfl, route_tables, ⟨_, _, asked_takes _ _ _ (by decide)⟩, by decide +kernel, by decide +kernel, by decide,
    ⟨_, _, asked_takes _ _ _ (by decide)⟩, ⟨_, _, asked_takes _ _ _ (by decide)⟩, by decide +kernel,
    ⟨_, _, asked_takes _ _ _ (by decide)⟩⟩

/-- A table in its canonical form. -/
theorem witness_TablesReadBack : tableWf 0 [(3, 7), (9, 1)] := ⟨by decide, by decide⟩

/-- A span that ends with the directory, in UNARMED and, beyond the guard line, in RUNNING. -/
theorem witness_CellsMapped :
    tableLaw (machine .running).route ∧ guardLine (machine .unarmed) = none ∧ guardLine (machine .running) = some 100000
      ∧ (∀ k < 2, cellBeyond .up 0 100000 (4094 + k) = true) ∧ 4094 + 2 ≤ 4096
      ∧ (∀ e ∈ [3, 3], e ≤ 511 ∧ (entryAt route e).defined = true)
      ∧ (∃ r rest, Takes (asked (machine .running) 16 (mapPayload 4094 [3, 3])) 16 (mapPayload 4094 [3, 3]) r rest)
      ∧ ∃ r rest, Takes (asked (machine .running) 17 (encU 2 4094 ++ encU 1 2)) 17 (encU 2 4094 ++ encU 1 2) r rest :=
  ⟨route_tables, rfl, by decide +kernel, by decide +kernel, by decide, by decide +kernel,
    ⟨_, _, asked_takes _ _ _ (by decide)⟩, ⟨_, _, asked_takes _ _ _ (by decide)⟩⟩

/-- A marker at the least distance from the one in the list; and one that is in the list, and one that is not. -/
theorem witness_MarkersAddedAndRemoved :
    markerLaw route ∧ guardLine (machine .unarmed) = none ∧ route.markers.length < 256
      ∧ (∀ m ∈ route.markers, 10000 ≤ (m.position - 11000).natAbs)
      ∧ markerBeyond .up 100000 100001 = true
      ∧ (∃ r rest, Takes (asked (machine .unarmed) 18 (encI 4 11000 ++ encU 4 65535)) 18 (encI 4 11000 ++ encU 4 65535) r rest)
      ∧ (∃ r rest, Takes (asked (machine .unarmed) 19 (encI 4 1000)) 19 (encI 4 1000) r rest)
      ∧ (∃ m ∈ route.markers, m.position = 1000) ∧ ∀ m ∈ route.markers, m.position ≠ 1001 :=
  ⟨⟨by decide +kernel, by decide +kernel⟩, rfl, by decide +kernel, by decide +kernel, by decide +kernel,
    ⟨_, _, asked_takes _ _ _ (by decide)⟩, ⟨_, _, asked_takes _ _ _ (by decide)⟩, ⟨⟨1000, 7, .unseen⟩, by decide +kernel, rfl⟩,
    by decide +kernel⟩

/-- A part equipped for ARM, and one in ARMED. -/
theorem witness_ArmAndStart :
    (machine .unarmed).run.runState = .unarmed ∧ (∃ p, ((machine .unarmed).ports.get p).enable = true)
      ∧ (∀ p, ((machine .unarmed).ports.get p).enable = true →
        ((machine .unarmed).correctors.get p).calibration.defined = true)
      ∧ (machine .unarmed).odo.settings.scaleA ≠ 0 ∧ (machine .unarmed).odo.settings.scaleB ≠ 0
      ∧ (machine .unarmed).run.paramsSet = true ∧ (machine .unarmed).route.cells ≠ []
      ∧ (∃ r rest, Takes (asked (machine .unarmed) 21 []) 21 [] r rest)
      ∧ (machine .armed).faults.headLoss = none ∧ (machine .armed).faults.linkLoss = none
      ∧ ∃ r rest, Takes (asked (machine .armed) 22 []) 22 [] r rest :=
  ⟨rfl, ⟨.h0, rfl⟩, fun p => by cases p <;> decide +kernel, by decide, by decide, rfl, by decide,
    ⟨_, _, asked_takes _ _ _ (by decide)⟩, rfl, rfl, ⟨_, _, asked_takes _ _ _ (by decide)⟩⟩

/-- A run to stop: with a context open, with one whose INTRUSION record is lost in the drain, and with none. -/
theorem witness_StopDrains :
    (∃ r rest, Takes (asked surveying 23 []) 23 [] r rest) ∧ surveying.run.runState = .running
      ∧ surveying.assembler.contexts.getLast? = some (context 4)
      ∧ (∃ r rest, Takes (asked lossy 23 []) 23 [] r rest) ∧ lossy.run.runState = .running
      ∧ (∃ r rest, Takes (asked (machine .running) 23 []) 23 [] r rest) ∧ (machine .running).assembler.contexts = []
      ∧ (machine .running).queue.holder = [] ∧ occupancy (machine .running).queue + 1104 ≤ 65536 :=
  ⟨⟨_, _, asked_takes _ _ _ (by decide)⟩, rfl, rfl, ⟨_, _, asked_takes _ _ _ (by decide)⟩, rfl,
    ⟨_, _, asked_takes _ _ _ (by decide)⟩, rfl, rfl, by decide⟩

/-- The drain without a loss and the drain with one (R192). -/
theorem test_drain :
    (after .stop (asked surveying 23 [])).run.runState = .draining
      ∧ (after .stop (asked lossy 23 [])).run.runState = .halted := by
  decide +kernel

/-- RESET RUN in UNARMED and in HALTED. -/
theorem witness_ResetRunReleases :
    (∃ r rest, Takes (asked (machine .unarmed) 24 []) 24 [] r rest) ∧ (machine .unarmed).run.runState = .unarmed
      ∧ (∃ r rest, Takes (asked (machine .halted) 24 []) 24 [] r rest) ∧ (machine .halted).run.runState ≠ .unarmed :=
  ⟨⟨_, _, asked_takes _ _ _ (by decide)⟩, rfl, ⟨_, _, asked_takes _ _ _ (by decide)⟩, by decide⟩

/-- The lowest and the highest floor, and both slots. -/
theorem witness_FloorAndAcknowledge :
    (∀ f ∈ [0, 5], f ≤ 5 ∧ ∃ s r rest, Takes s 25 (encU 1 f) r rest) ∧ (∃ s r rest, Takes s 26 [1] r rest)
      ∧ ∃ s r rest, Takes s 26 [2] r rest :=
  ⟨fun f h => ⟨by revert f; decide, _, _, _, asked_takes State.reset 25 (encU 1 f) (by decide)⟩,
    ⟨_, _, _, asked_takes State.reset 26 [1] (by decide)⟩, ⟨_, _, _, asked_takes State.reset 26 [2] (by decide)⟩⟩

/-- A request refused: SET ODOMETRY in a survey. -/
theorem witness_RefusedRequestChangesNothing :
    let s := asked (machine .running) 11 (odometryPayload {})
    let r : Request := ⟨5, 11, odometryPayload {}⟩
    Ready s r [] ∧ takesKind .setOdometry r.kind.toNat = true ∧ exec .setOdometry s = .next (after .setOdometry s)
      ∧ (after .setOdometry s).mgmt.lastTaken = some ⟨r.tag, r.kind, .frozen⟩ ∧ Status.frozen ≠ .ok := by
  refine ⟨⟨rfl, by decide⟩, by decide, rfl, by decide +kernel, by decide⟩

/-- A request one byte short, one of the right length in ARMED, and the takings that another run state refuses. -/
theorem witness_FirstRowsRefuse :
    (∃ r rest, Ready (asked (machine .armed) 11 (List.replicate 32 0)) r rest ∧ r.kind = BitVec.ofNat 8 11
        ∧ r.payload.length ≠ 33)
      ∧ (∃ r rest, Ready (asked (machine .armed) 15 [5]) r rest ∧ r.kind = BitVec.ofNat 8 15 ∧ r.payload.length = 1)
      ∧ (machine .armed).run.runState = .armed ∧ (machine .armed).run.runState ≠ .unarmed
      ∧ (∃ r rest, Ready (asked (machine .armed) 21 []) r rest ∧ r.kind = BitVec.ofNat 8 21 ∧ r.payload.length = 0)
      ∧ (∃ r rest, Ready (asked (machine .unarmed) 22 []) r rest ∧ r.kind = BitVec.ofNat 8 22 ∧ r.payload.length = 0)
      ∧ (machine .unarmed).run.runState ≠ .armed ∧ (machine .armed).run.runState ≠ .running :=
  ⟨⟨_, _, ⟨rfl, by decide⟩, rfl, by decide +kernel⟩, ⟨_, _, ⟨rfl, by decide⟩, rfl, rfl⟩, rfl, by decide,
    ⟨_, _, ⟨rfl, by decide⟩, rfl, rfl⟩, ⟨_, _, ⟨rfl, by decide⟩, rfl, rfl⟩, by decide, by decide⟩

/-! ### A live machine that keeps every law, and a step of it -/

/-- A survey with a context open, a record in transmission and a microsecond about to pass. -/
def live : State :=
  { surveying with
    queue := { control := [event], sending := some .control, linkUp := true }
    pending := [.timebaseAdvance] }

/-- Its step answers a next state. -/
theorem live_steps : ∃ t, step live = .next t := ⟨_, rfl⟩

theorem witness_LevelLawKept : levelLaw live.queue := by unfold levelLaw; decide

theorem live_calibrations : ∀ h, (live.correctors.get h).calibration.knots.length = 17 := by
  intro h; cases h <;> rfl

theorem live_stagingLaw : stagingLaw live.mgmt := by intro st h; exact (nomatch h)

theorem live_stagedTargetLaw : stagedTargetLaw live.mgmt := by intro st j h; exact (nomatch h)

theorem witness_CapacityLawKept : capacityLaw live.queue ∧ responseBounds live ∧ stagingLaw live.mgmt :=
  ⟨by unfold capacityLaw; decide, ⟨by decide, by decide, live_calibrations⟩, live_stagingLaw⟩

theorem witness_TransmitterAndHolderKept :
    transmitterLaw live.queue ∧ holderLaw live.queue ∧ live.queue.responseClaim = 0 :=
  ⟨⟨rfl, by decide⟩, ⟨by decide, by decide, fun r h => nomatch h⟩, rfl⟩

theorem witness_AssemblerLawsKept : contextLaw live ∧ accumulatorLaw live.assembler ∧ closureLaw live := by
  refine ⟨⟨by decide +kernel, by decide +kernel, by decide +kernel, by decide⟩, ?_, by unfold closureLaw; decide⟩
  intro c h s
  simp only [live, surveying, List.mem_singleton] at h
  subst h
  exact ⟨⟨fun _ => rfl, fun _ => rfl⟩, ⟨fun _ => rfl, fun _ => rfl⟩⟩

theorem witness_ChainageLawsKept : chainageLaw live ∧ correctionLaw live := by
  unfold chainageLaw correctionLaw; decide +kernel

theorem witness_LossTimersKept : lossTimerLaw live := by unfold lossTimerLaw; decide +kernel

theorem witness_AlertWheelIntakeKept :
    alertLaw live.comparator ∧ wheelLaw live.odo ∧ cameraLaw live.odo ∧ intakeLaw live.mgmt := by
  unfold alertLaw wheelLaw cameraLaw intakeLaw; decide +kernel

theorem witness_PortAndCorrectorKept :
    (∀ p, portLaw (live.ports.get p)) ∧ ∀ p, correctorLaw (live.correctors.get p) := by
  constructor
  · intro p
    cases p
    · refine ⟨rfl, rfl, rfl, by decide, ?_, by decide, by decide, by decide, by decide⟩
      intro e h
      have : e = 256 := by simpa [live, surveying, machine, streaming, PerHead.get] using h.symm
      subst this; decide
    · exact ⟨rfl, rfl, rfl, by decide, fun e h => (nomatch h), by decide, by decide, by decide, by decide⟩
    · exact ⟨rfl, rfl, rfl, by decide, fun e h => (nomatch h), by decide, by decide, by decide, by decide⟩
  · intro p; cases p <;> exact fun _ => rfl

theorem witness_RouteLawsKept :
    tableLaw live.route ∧ referenceLaw live.route ∧ integrityLaw live.route ∧ stagedTargetLaw live.mgmt := by
  refine ⟨route_tables, ?_, ⟨?_, ?_⟩, live_stagedTargetLaw⟩
  · intro e
    by_cases h : e = 3
    · subst h; decide +kernel
    · have h' : ¬3 = e := fun x => h x.symm
      simp [live, surveying, machine, route, entryAt, cellsNaming, tableGet, h']
  · intro i e h
    by_cases hi : i = 0
    · subst hi
      have : e = 3 := by simpa [live, surveying, machine, route, cellAt, tableGet] using h.symm
      subst this; decide +kernel
    · have h' : ¬0 = i := fun x => hi x.symm
      simp [live, surveying, machine, route, cellAt, tableGet, h'] at h
  · intro e h
    by_cases he : e = 3
    · subst he; decide +kernel
    · have h' : ¬3 = e := fun x => he x.symm
      simp [live, surveying, machine, route, entryAt, tableGet, h'] at h

theorem witness_TablesStayInRange :
    markerLaw live.route ∧ libraryLaw live.route ∧ tableLaw live.route ∧ stagingLaw live.mgmt
      ∧ stagedTargetLaw live.mgmt ∧ paramsInRange live.run.params ∧ settingsInRange live.odo.settings := by
  refine ⟨⟨by decide +kernel, by decide +kernel⟩, ?_, route_tables, live_stagingLaw, live_stagedTargetLaw, ?_, ?_⟩
  · intro j
    by_cases h : j = 5
    · subst h; unfold envelopeInRange; decide +kernel
    · have h' : ¬5 = j := fun x => h x.symm
      have : envelopeAt live.route j = {} := by simp [live, surveying, machine, route, envelopeAt, tableGet, h']
      rw [this]; unfold envelopeInRange; decide +kernel
  · unfold paramsInRange; decide +kernel
  · unfold settingsInRange scaleInRange; decide +kernel

theorem witness_FreezeAndSlotLaws :
    live.pending = [.timebaseAdvance] ∧ frozen live.run.runState = true ∧ Instr.timebaseAdvance ≠ .resetInput
      ∧ ∀ lines, Instr.timebaseAdvance ≠ .powerOn lines :=
  ⟨rfl, rfl, by decide, fun lines h => nomatch h⟩

end Sys2Proof.Tests
end

/-! What a good HEAD STATUS does (R29, R30): numbers read back from the bytes that carry them (R196), the fields of a
HEAD STATUS payload (R197), and the rows of R29 and R30 by condition. -/

namespace Sys2Proof.Machine

/-! ### Numbers read back from bytes -/

@[simp] theorem length_leBytes (w n : Nat) : (leBytes w n).length = w := by
  induction w generalizing n with
  | zero => rfl
  | succ w ih => simp [leBytes, ih]

@[simp] theorem length_encU (w n : Nat) : (encU w n).length = w := length_leBytes w _

@[simp] theorem length_encI (w : Nat) (x : Int) : (encI w x).length = w := length_leBytes w _

theorem leNat_leBytes (w n : Nat) : leNat (leBytes w n) = n % 256 ^ w := by
  induction w generalizing n with
  | zero => simp [leBytes, leNat, Nat.mod_one]
  | succ w ih => rw [leBytes, leNat, ih, BitVec.toNat_ofNat, pow_succ' 256 w, Nat.mod_mul]

/-- Within its width an unsigned number does not saturate. -/
theorem leNat_encU {w n : Nat} (h : n < 256 ^ w) : leNat (encU w n) = n := by
  rw [encU, leNat_leBytes, Nat.min_eq_left (Nat.le_sub_one_of_lt h), Nat.mod_eq_of_lt h]

/-- Within its width a signed number does not saturate, and its bytes spell its two's complement. -/
theorem leNat_encI {w : Nat} {x : Int} (lo : -(256 ^ w / 2 : Int) ≤ x) (hi : x < 256 ^ w / 2) :
    (leNat (encI w x) : Int) = if 0 ≤ x then x else x + (256 ^ w : Nat) := by
  have clamped : max (-(256 ^ w / 2 : Int)) (min (256 ^ w / 2 - 1) x) = x := by omega
  have small : (x % (256 ^ w : Nat)).toNat < 256 ^ w := by
    have := Int.emod_lt_of_pos x (show (0 : Int) < (256 ^ w : Nat) by positivity)
    omega
  have whole : (256 ^ w / 2 : Int) * 2 ≤ (256 ^ w : Nat) := by push_cast; omega
  rw [encI, leNat_leBytes, clamped, Nat.mod_eq_of_lt small, Int.toNat_of_nonneg (Int.emod_nonneg x (by positivity))]
  split
  · exact Int.emod_eq_of_lt ‹_› (by omega)
  · rw [← Int.add_emod_right, Int.emod_eq_of_lt] <;> omega

/-- The field that some bytes of a payload make, behind the bytes that stand before them. -/
theorem fieldU_append (pre bytes rest : List Byte) :
    fieldU pre.length bytes.length (pre ++ (bytes ++ rest)) = leNat bytes := by
  rw [fieldU, List.drop_left, List.take_left]

theorem fieldU_encU {off w n : Nat} {pre rest : List Byte} (hoff : pre.length = off) (h : n < 256 ^ w) :
    fieldU off w (pre ++ (encU w n ++ rest)) = n := by
  have field := fieldU_append pre (encU w n) rest
  rwa [length_encU, hoff, leNat_encU h] at field

theorem fieldI_encI {off w : Nat} {x : Int} {pre rest : List Byte} (hoff : pre.length = off)
    (lo : -(256 ^ w / 2 : Int) ≤ x) (hi : x < 256 ^ w / 2) :
    fieldI off w (pre ++ (encI w x ++ rest)) = x := by
  have field := fieldU_append pre (encI w x) rest
  rw [length_encI, hoff] at field
  have spelt := leNat_encI lo hi
  have width : (256 ^ w : Int) = (256 ^ w : Nat) := by push_cast; rfl
  rw [width] at lo hi
  simp only [fieldI, field]
  split at spelt <;> split <;> omega

/-! ### The fields of a HEAD STATUS -/

theorem length_statusPayload (c : Condition) (temperature : Int) (code : Nat) :
    (statusPayload c temperature code).length = 3 := by
  simp [statusPayload]

theorem conditionOf_statusPayload (c : Condition) (temperature : Int) (code : Nat) :
    conditionOf (fieldU 0 1 (statusPayload c temperature code)) = some c := by
  have small : conditionCode c < 256 ^ 1 := by cases c <;> decide
  have field : fieldU 0 1 (statusPayload c temperature code) = conditionCode c := by
    rw [statusPayload, List.append_assoc]
    exact fieldU_encU (pre := []) rfl small
  rw [field]
  cases c <;> rfl

theorem temperature_statusPayload (c : Condition) {temperature : Int} (code : Nat) (lo : -128 ≤ temperature)
    (hi : temperature ≤ 127) : fieldI 1 1 (statusPayload c temperature code) = temperature := by
  rw [statusPayload, List.append_assoc]
  exact fieldI_encI (length_encU _ _) (by omega) (by omega)

theorem code_statusPayload (c : Condition) (temperature : Int) {code : Nat} (h : code ≤ 255) :
    fieldU 2 1 (statusPayload c temperature code) = code := by
  have field := fieldU_encU (pre := encU 1 (conditionCode c) ++ encI 1 temperature) (rest := []) (off := 2)
    (by simp) (show code < 256 ^ 1 by omega)
  rwa [List.append_nil] at field

/-! ### The rows of R29 and R30 -/

/-- What a good HEAD STATUS makes of the state, by its condition (R29, R30). -/
def goodStatus (p : HeadId) (code : Nat) (temperature : Int) (s : State) : Condition → State
  | .fault => statusFault p code temperature s
  | .warn => statusWarn p code temperature s
  | .ok => statusOk p code s

/-- The four port states other than DOWN and DISABLED examine frames (R22). -/
theorem examinesFrames_of_ne {state : PortState} (hdown : state ≠ .down) (hdisabled : state ≠ .disabled) :
    examinesFrames state = true := by
  cases state with
  | down => exact absurd rfl hdown
  | disabled => exact absurd rfl hdisabled
  | waiting | streaming | silent | faulted => rfl

/-- A HEAD STATUS built as R197 gives is good: no row of R22 discards it at a port that examines frames. -/
theorem exec_headStatus_good {p : HeadId} {s : State} {temperature : Int} {code : Nat} (c : Condition)
    (lo : -128 ≤ temperature) (hi : temperature ≤ 127) (hcode : code ≤ 255)
    (hport : examinesFrames (s.ports.get p).state = true) :
    exec (.headStatus p (statusPayload c temperature code)) s = .next (endEvent (goodStatus p code temperature s c)) := by
  have arrives : headStatusArrives p (statusPayload c temperature code) s = goodStatus p code temperature s c := by
    simp only [headStatusArrives, hport, length_statusPayload, conditionOf_statusPayload,
      temperature_statusPayload c code lo hi, code_statusPayload c temperature hcode]
    cases c <;> rfl
  rw [← arrives]
  rfl

/-- Outside RUNNING, and at a port that was not STREAMING, a new port state causes nothing more (R120, R188). -/
theorem leftFrom_eq_self {before : PortState} {s : State} (h : ¬(s.run.runState = .running ∧ before = .streaming)) :
    leftFrom before s = s := by
  unfold leftFrom afterLeaving
  split
  · rw [if_neg fun running => h ⟨running, ‹_›⟩]
  · rfl

/-- A FAULT in FAULTED updates the last status alone (R29). -/
theorem statusFault_of_faulted {p : HeadId} {code : Nat} {temperature : Int} {s : State}
    (h : (s.ports.get p).state = .faulted) :
    statusFault p code temperature s
      = s.withPort p { s.ports.get p with lastStatus := some ⟨.fault, code⟩ } :=
  if_pos h

/-- A FAULT elsewhere takes the port to FAULTED with HEAD_FAULT (R29). -/
theorem statusFault_of_ne {p : HeadId} {code : Nat} {temperature : Int} {s : State}
    (h : (s.ports.get p).state ≠ .faulted)
    (stays : ¬(s.run.runState = .running ∧ (s.ports.get p).state = .streaming)) :
    statusFault p code temperature s
      = raiseSoft (.port p) (.headFault code temperature)
          (s.withPort p (idlePort .faulted { s.ports.get p with lastStatus := some ⟨.fault, code⟩ })) := by
  refine (if_neg h).trans (leftFrom_eq_self ?_)
  rw [raiseSoft_run_runState]
  exact stays

/-- A WARN that finds the flag clear sets it and raises HEAD_WARN (R30). -/
theorem statusWarn_of_clear {p : HeadId} {code : Nat} {temperature : Int} {s : State} (h : (s.ports.get p).warn = false) :
    statusWarn p code temperature s
      = raiseSoft (.port p) (.headWarn code temperature)
          (s.withPort p { clearedFault (s.ports.get p) with lastStatus := some ⟨.warn, code⟩, warn := true }) := by
  simp [statusWarn, h]

/-- A WARN that finds the flag set raises no event (R30). -/
theorem statusWarn_of_set {p : HeadId} {code : Nat} {temperature : Int} {s : State} (h : (s.ports.get p).warn = true) :
    statusWarn p code temperature s
      = s.withPort p { clearedFault (s.ports.get p) with lastStatus := some ⟨.warn, code⟩, warn := true } :=
  if_pos h

/-- Settles O12: the payload reads back as its fields, so that the command is the row of its condition. -/
theorem headStatusActs : Obligations.HeadStatusActs := by
  intro p s temperature code lo hi hcode hdown hdisabled port cleared
  have acts (c : Condition) := exec_headStatus_good c lo hi hcode (examinesFrames_of_ne hdown hdisabled)
  refine ⟨fun faulted => ?_, fun elsewhere stays => ?_, fun unflagged => ?_, fun flagged => ?_, acts .ok⟩
  · rw [acts, goodStatus, statusFault_of_faulted faulted]; rfl
  · rw [acts, goodStatus, statusFault_of_ne elsewhere stays]; rfl
  · rw [acts, goodStatus, statusWarn_of_clear unflagged]; rfl
  · rw [acts, goodStatus, statusWarn_of_set flagged]; rfl

end Sys2Proof.Machine

/-! Sample correction: the integer square root and the placing of a point (R51, R53), and the sector of a direction by the
doubling of its angle (R52). -/

namespace Sys2Proof.Machine

/-! ### The integer square root -/

/-- With a base-4 digit of fuel for each digit of `n`, the digits give the integer square root. -/
theorem isqrtAux_spec (fuel n : Nat) (h : n < 4 ^ fuel) :
    isqrtAux fuel n * isqrtAux fuel n ≤ n ∧ n < (isqrtAux fuel n + 1) * (isqrtAux fuel n + 1) := by
  induction fuel generalizing n with
  | zero => simp_all [isqrtAux]
  | succ fuel ih =>
    obtain ⟨lo, hi⟩ := ih (n / 4) (by rw [pow_succ] at h; omega)
    have below : 4 * (n / 4) ≤ n := Nat.mul_div_le n 4
    have above : n < 4 * (n / 4 + 1) := by omega
    simp only [isqrtAux]
    split
    · exact ⟨‹_›, by nlinarith⟩
    · exact ⟨by nlinarith, by omega⟩

theorem lt_four_pow_isqrt_fuel (n : Nat) : n < 4 ^ (Nat.log2 n / 2 + 1) :=
  calc
    n < 2 ^ (Nat.log2 n + 1) := Nat.lt_log2_self
    _ ≤ 2 ^ (2 * (Nat.log2 n / 2 + 1)) := Nat.pow_le_pow_right (by decide) (by omega)
    _ = 4 ^ (Nat.log2 n / 2 + 1) := pow_mul 2 2 _

theorem isqrt_mul_self_le (n : Nat) : isqrt n * isqrt n ≤ n :=
  (isqrtAux_spec _ n (lt_four_pow_isqrt_fuel n)).1

theorem lt_succ_isqrt_mul_self (n : Nat) : n < (isqrt n + 1) * (isqrt n + 1) :=
  (isqrtAux_spec _ n (lt_four_pow_isqrt_fuel n)).2

theorem le_isqrt_iff (m n : Nat) : m ≤ isqrt n ↔ m * m ≤ n :=
  ⟨fun h => (Nat.mul_self_le_mul_self h).trans (isqrt_mul_self_le n),
    fun h => Nat.le_of_lt_succ (Nat.mul_self_lt_mul_self_iff.1 (h.trans_lt (lt_succ_isqrt_mul_self n)))⟩

/-! ### The placing of a point -/

theorem toNat_sum_squares_eq_zero_iff (y z : Int) : (y * y + z * z).toNat = 0 ↔ y = 0 ∧ z = 0 := by
  rw [Int.toNat_eq_zero]
  constructor
  · intro h
    constructor <;> nlinarith
  · rintro ⟨rfl, rfl⟩
    rfl

/-- The rows of R51 and R53 by the sum of the squares of the offsets; a whole distance above 205,000 is one of 205,001 or more. -/
theorem placePoint_of_offsets {k : CorrectionSetup} {rc y dz : Int} {q : Nat} (intensity : Nat)
    (hy : k.yh + rnd (rc * cosine q) 32768 = y) (hdz : k.zh + rnd (rc * sine q) 32768 - k.centreHeight = dz) :
    placePoint k rc q intensity
      = if (y * y + dz * dz).toNat = 0 then .discarded .centre
        else if 205001 * 205001 ≤ (y * y + dz * dz).toNat then .discarded .far
        else .accepted ⟨sectorOf y dz, isqrt (y * y + dz * dz).toNat, y, dz + k.centreHeight, intensity⟩ := by
  have beyond (d : Nat) : 205000 < isqrt d ↔ 205001 * 205001 ≤ d := le_isqrt_iff 205001 d
  have height : k.zh + rnd (rc * sine q) 32768 = dz + k.centreHeight := by omega
  simp only [placePoint, hy, height, beyond, toNat_sum_squares_eq_zero_iff, add_sub_cancel_right]

/-- Settles O15: the rows of the placing, and the square root of a positive number is positive. -/
theorem radiusIsWholeDistance : Obligations.RadiusIsWholeDistance := by
  refine ⟨fun n => ⟨isqrt_mul_self_le n, lt_succ_isqrt_mul_self n⟩, ?_⟩
  intro k rc q intensity y dz d
  exact ⟨placePoint_of_offsets intensity rfl rfl, fun nonzero => (le_isqrt_iff 1 d).2 (Nat.one_le_iff_ne_zero.2 nonzero)⟩

/-- What an accepted sample says of its placing (R41): it passed stages 1 to 3. -/
theorem placePoint_of_correctSample_accepted {k : CorrectionSetup} {a : Nat} {x : Sample} {pt : CorrectedPoint}
    (h : correctSample k a x = .accepted pt) :
    ∃ rc, placePoint k rc (tableIndex k a) x.intensity = .accepted pt := by
  unfold correctSample at h
  split at h
  · cases h
  · dsimp only at h
    split at h
    · cases h
    · exact ⟨_, h⟩

/-- An accepted point has the sector of its offsets from the centre (R52). -/
theorem sector_of_placePoint_accepted {k : CorrectionSetup} {rc : Int} {q intensity : Nat} {pt : CorrectedPoint}
    (h : placePoint k rc q intensity = .accepted pt) : pt.sector = sectorOf pt.y (pt.z - k.centreHeight) := by
  rw [placePoint_of_offsets intensity rfl rfl] at h
  split at h
  · cases h
  · split at h
    · cases h
    · cases h
      rw [add_sub_cancel_right]

/-! ### The sector of a direction -/

theorem quadrant_le_three (y z : Int) : quadrant y z ≤ 3 := by
  unfold quadrant
  split_ifs <;> omega

/-- Each doubling adds one binary digit. -/
theorem sectorDigits_lt (k : Nat) (y z : Int) (acc : Nat) : sectorDigits k y z acc < 2 ^ k * (acc + 1) := by
  induction k generalizing y z acc with
  | zero => simp [sectorDigits]
  | succ k ih =>
    have digit := Nat.mod_lt (quadrant (y * y - z * z) (2 * y * z)) (by decide : 2 > 0)
    calc
      sectorDigits (k + 1) y z acc < 2 ^ k * (2 * acc + quadrant (y * y - z * z) (2 * y * z) % 2 + 1) := ih _ _ _
      _ ≤ 2 ^ k * (2 * (acc + 1)) := Nat.mul_le_mul_left _ (by omega)
      _ = 2 ^ (k + 1) * (acc + 1) := by rw [pow_succ, mul_assoc]

theorem sectorOf_le (y z : Int) : sectorOf y z ≤ 127 := by
  have digits := sectorDigits_lt 5 y z (quadrant y z)
  have first := quadrant_le_three y z
  unfold sectorOf
  omega

/-! Directions are counted in quarter turns: `β` quarter turns are the angle `π / 2 * β`, and the quadrant is the whole part of
`β` modulo 4. -/

/-- `y` and `z` are the offsets at a positive distance in the direction of `β` quarter turns. -/
def PointsAt (y z β : ℝ) : Prop :=
  ∃ ρ > 0, y = ρ * Real.cos (Real.pi / 2 * β) ∧ z = ρ * Real.sin (Real.pi / 2 * β)

/-- The square of the complex number y + iz has twice its direction. -/
theorem PointsAt.double {y z β : ℝ} (h : PointsAt y z β) : PointsAt (y * y - z * z) (2 * y * z) (2 * β) := by
  obtain ⟨ρ, hρ, rfl, rfl⟩ := h
  have twice : Real.pi / 2 * (2 * β) = 2 * (Real.pi / 2 * β) := by ring
  refine ⟨ρ ^ 2, pow_pos hρ 2, ?_, ?_⟩
  · rw [twice, Real.cos_two_mul']; ring
  · rw [twice, Real.sin_two_mul]; ring

/-- A whole turn leaves the direction. -/
theorem PointsAt.sub_turns {y z β : ℝ} (h : PointsAt y z β) (n : ℤ) : PointsAt y z (β - 4 * n) := by
  obtain ⟨ρ, hρ, rfl, rfl⟩ := h
  have turn : Real.pi / 2 * (β - 4 * n) = Real.pi / 2 * β - n * (2 * Real.pi) := by ring
  exact ⟨ρ, hρ, by rw [turn, Real.cos_sub_int_mul_two_pi], by rw [turn, Real.sin_sub_int_mul_two_pi]⟩

/-- A quarter turn back. -/
theorem PointsAt.sub_one {y z β : ℝ} (h : PointsAt y z β) : PointsAt z (-y) (β - 1) := by
  obtain ⟨ρ, hρ, rfl, rfl⟩ := h
  have turn : Real.pi / 2 * (β - 1) = Real.pi / 2 * β - Real.pi / 2 := by ring
  exact ⟨ρ, hρ, by rw [turn, Real.cos_sub_pi_div_two], by rw [turn, Real.sin_sub_pi_div_two, mul_neg]⟩

/-- The first quadrant holds the direction of +y and not that of +z. -/
theorem PointsAt.first_quadrant {y z β : ℝ} (h : PointsAt y z β) (lo : 0 ≤ β) (hi : β < 1) : 0 < y ∧ 0 ≤ z := by
  obtain ⟨ρ, hρ, rfl, rfl⟩ := h
  have quarter : 0 < Real.pi / 2 := by positivity
  have angle_nonneg : 0 ≤ Real.pi / 2 * β := by positivity
  have angle_lt : Real.pi / 2 * β < Real.pi / 2 := mul_lt_of_lt_one_right quarter hi
  exact ⟨mul_pos hρ (Real.cos_pos_of_mem_Ioo ⟨by linarith, angle_lt⟩),
    mul_nonneg hρ.le (Real.sin_nonneg_of_nonneg_of_le_pi angle_nonneg (by linarith))⟩

/-- Turned back by its whole quarter turns, a direction lies in the first quadrant. -/
theorem quadrant_eq_floor_emod {y z : Int} {β : ℝ} (h : PointsAt y z β) : (quadrant y z : ℤ) = ⌊β⌋ % 4 := by
  have lo := Int.floor_le β
  have hi := Int.lt_floor_add_one β
  have within := h.sub_turns (⌊β⌋ / 4)
  have turns : (4 * (⌊β⌋ / 4 : ℤ) + (⌊β⌋ % 4 : ℤ) : ℝ) = ⌊β⌋ := mod_cast Int.mul_ediv_add_emod ⌊β⌋ 4
  have quarters : ⌊β⌋ % 4 = 0 ∨ ⌊β⌋ % 4 = 1 ∨ ⌊β⌋ % 4 = 2 ∨ ⌊β⌋ % 4 = 3 := by omega
  rcases quarters with r | r | r | r <;> rw [r] at turns ⊢ <;> push_cast at turns
  · obtain ⟨hy, hz⟩ := within.first_quadrant (by linarith) (by linarith)
    norm_cast at hy hz
    simp [quadrant, hy, hz]
  · obtain ⟨hz, hy⟩ := within.sub_one.first_quadrant (by linarith) (by linarith)
    norm_cast at hy hz
    rw [quadrant, if_neg (by omega), if_pos (by omega)]; rfl
  · obtain ⟨hy, hz⟩ := within.sub_one.sub_one.first_quadrant (by linarith) (by linarith)
    norm_cast at hy hz
    rw [quadrant, if_neg (by omega), if_neg (by omega), if_pos (by omega)]; rfl
  · obtain ⟨hz, hy⟩ := within.sub_one.sub_one.sub_one.first_quadrant (by linarith) (by linarith)
    norm_cast at hy hz
    rw [quadrant, if_neg (by omega), if_neg (by omega), if_neg (by omega)]; rfl

/-- The digit of a doubling is the parity of the doubled direction's quarter turns. -/
theorem floor_two_mul_eq (β : ℝ) : ⌊2 * β⌋ = 2 * ⌊β⌋ + ⌊2 * β⌋ % 2 := by
  have lo : 2 * ⌊β⌋ ≤ ⌊2 * β⌋ := Int.le_floor.2 (by push_cast; linarith [Int.floor_le β])
  have hi : ⌊2 * β⌋ < 2 * ⌊β⌋ + 2 := Int.floor_lt.2 (by push_cast; linarith [Int.lt_floor_add_one β])
  omega

/-- The digits gathered are the whole part of the direction in units of a `2 ^ k`-th of a quarter turn. -/
theorem sectorDigits_eq_floor {k : Nat} {y z : Int} {acc : Nat} {β : ℝ} (h : PointsAt y z β) (hacc : (acc : ℤ) = ⌊β⌋) :
    (sectorDigits k y z acc : ℤ) = ⌊2 ^ k * β⌋ := by
  induction k generalizing y z acc β with
  | zero => simpa [sectorDigits] using hacc
  | succ k ih =>
    have doubled : PointsAt (y * y - z * z : ℤ) (2 * y * z : ℤ) (2 * β) := by
      push_cast
      exact h.double
    have digit : ((2 * acc + quadrant (y * y - z * z) (2 * y * z) % 2 : ℕ) : ℤ) = ⌊2 * β⌋ := by
      have parity := quadrant_eq_floor_emod doubled
      have floors := floor_two_mul_eq β
      push_cast
      omega
    rw [sectorDigits, ih doubled digit, pow_succ, mul_assoc]

/-- The sector is the whole part of the direction in 32nds of a quarter turn. -/
theorem sectorOf_eq_floor {y z : Int} {β : ℝ} (h : PointsAt y z β) (lo : 0 ≤ β) (hi : β < 4) :
    (sectorOf y z : ℤ) = ⌊32 * β⌋ := by
  have first : (quadrant y z : ℤ) = ⌊β⌋ := by
    have floor_nonneg : 0 ≤ ⌊β⌋ := Int.floor_nonneg.2 lo
    have floor_lt : ⌊β⌋ < 4 := Int.floor_lt.2 (by exact_mod_cast hi)
    rw [quadrant_eq_floor_emod h, Int.emod_eq_of_lt floor_nonneg floor_lt]
  rw [sectorOf, sectorDigits_eq_floor h first]
  norm_num

/-- Settles O14: a direction of `α` angle units is one of `α / 16384` quarter turns. -/
theorem sectorOfExactDirection : Obligations.SectorOfExactDirection := by
  refine ⟨fun α ρ dy dz lo hi hρ hy hz => ?_, fun k a x pt h => ?_⟩
  · have angle : 2 * Real.pi * α / 65536 = Real.pi / 2 * (α / 16384) := by ring
    have direction : PointsAt dy dz (α / 16384) := ⟨ρ, hρ, angle ▸ hy, angle ▸ hz⟩
    rw [sectorOf_eq_floor direction (by positivity) (by linarith)]
    congr 1
    ring
  · obtain ⟨rc, placed⟩ := placePoint_of_correctSample_accepted h
    have sector := sector_of_placePoint_accepted placed
    exact ⟨sector, sector ▸ sectorOf_le _ _⟩

end Sys2Proof.Machine

/-! The fixed sine table (R47): each entry is the integer nearest to its sine. -/
namespace Sys2Proof.Machine

/-! ### The sine table

The entries of a quarter turn are held against a walk round the unit circle on integers: each stride is a rotation by
2π/4,096, and its error is small beside the least distance of an exact entry from a half. -/

/-- The radius of the circle on which the walk goes. -/
def walkRadius : Int := 1000000000000000

/-- The cosine of a stride at the walk's radius, whole part. -/
def strideCos : Int := 999998823451471

/-- The sine of a stride at the walk's radius, whole part. -/
def strideSin : Int := 1533980186284

/-- The point that `q` strides reach from `(walkRadius, 0)`, rounded down at each. -/
def sineWalk : Nat → Int × Int
  | 0 => (walkRadius, 0)
  | q + 1 =>
    (((sineWalk q).1 * strideCos - (sineWalk q).2 * strideSin) / walkRadius,
      ((sineWalk q).1 * strideSin + (sineWalk q).2 * strideCos) / walkRadius)

/-- Each entry is nearest to its sine on the walk, with the walk's error of 300 for each stride to spare. -/
theorem sineQuarter_near_walk : ∀ q < 1025,
    |walkRadius * sineQuarter q - 32767 * (sineWalk q).2| + 32767 * (300 * q) < walkRadius / 2 := by
  decide +kernel

/-- The exact angle of a stride. -/
noncomputable def strideAngle : ℝ := 2 * Real.pi / 4096

/-- A point of the walk as a complex number. -/
def toComplex (p : Int × Int) : ℂ := ⟨p.1, p.2⟩

/-- The exact stride, a rotation of the unit circle. -/
noncomputable def exactStride : ℂ := Complex.exp (strideAngle * Complex.I)

theorem norm_exactStride : ‖exactStride‖ = 1 := Complex.norm_exp_ofReal_mul_I _

theorem exactStride_pow_im (q : Nat) : (exactStride ^ q).im = Real.sin (2 * Real.pi * q / 4096) := by
  have angle : (q : ℂ) * (strideAngle * Complex.I) = (2 * Real.pi * q / 4096 : ℝ) * Complex.I := by
    rw [strideAngle]; push_cast; ring
  rw [exactStride, ← Complex.exp_nat_mul, angle, Complex.exp_ofReal_mul_I_im]

theorem strideAngle_bounds : 0.00153398078788564122 < strideAngle ∧ strideAngle < 0.00153398078788564123 := by
  have lo := Real.pi_gt_d20
  have hi := Real.pi_lt_d20
  unfold strideAngle
  constructor <;> linarith

theorem strideAngle_pow_bounds (n : Nat) :
    0.00153398078788564122 ^ n ≤ strideAngle ^ n ∧ strideAngle ^ n ≤ 0.00153398078788564123 ^ n := by
  obtain ⟨lo, hi⟩ := strideAngle_bounds
  exact ⟨pow_le_pow_left₀ (by norm_num) lo.le n, pow_le_pow_left₀ (by linarith) hi.le n⟩

theorem abs_strideAngle : |strideAngle| = strideAngle :=
  abs_of_pos (by linarith [strideAngle_bounds.1])

theorem abs_strideAngle_le_one : |strideAngle| ≤ 1 := by
  rw [abs_strideAngle]
  linarith [strideAngle_bounds.2]

/-- By the Taylor polynomial of degree 2. -/
theorem strideCos_near : |strideCos - walkRadius * Real.cos strideAngle| ≤ 295 := by
  have taylor := Real.cos_bound abs_strideAngle_le_one
  rw [abs_strideAngle, abs_le] at taylor
  have square := strideAngle_pow_bounds 2
  have fourth := strideAngle_pow_bounds 4
  norm_num at square fourth
  rw [abs_le]
  norm_num [strideCos, walkRadius]
  constructor <;> linarith

/-- By the Taylor polynomial of degree 3. -/
theorem strideSin_near : |strideSin - walkRadius * Real.sin strideAngle| ≤ 2 := by
  have taylor := Real.sin_bound abs_strideAngle_le_one
  rw [abs_strideAngle, abs_le] at taylor
  have angle := strideAngle_bounds
  have cube := strideAngle_pow_bounds 3
  have fifth := strideAngle_pow_bounds 5
  norm_num at angle cube fifth
  rw [abs_le]
  norm_num [strideSin, walkRadius]
  constructor <;> linarith

theorem norm_toComplex_stride_le : ‖toComplex (strideCos, strideSin)‖ ≤ walkRadius := by
  rw [Complex.norm_def]
  refine Real.sqrt_le_iff.2 ⟨by norm_num [walkRadius], ?_⟩
  norm_num [toComplex, Complex.normSq_apply, strideCos, strideSin, walkRadius]

theorem stride_near : ‖toComplex (strideCos, strideSin) - walkRadius * exactStride‖ ≤ 297 := by
  refine (Complex.norm_le_abs_re_add_abs_im _).trans ?_
  have hre := strideCos_near
  have him := strideSin_near
  simp [toComplex, exactStride, Complex.exp_ofReal_mul_I_re, Complex.exp_ofReal_mul_I_im]
  linarith

theorem abs_sub_walkRadius_mul_ediv_le (a : ℤ) : |(a - walkRadius * (a / walkRadius) : ℤ)| ≤ walkRadius := by
  unfold walkRadius
  rw [abs_le]
  omega

/-- What a step of the walk rounds away. -/
theorem walk_rounding_le (q : Nat) :
    ‖toComplex (sineWalk q) * toComplex (strideCos, strideSin) - walkRadius * toComplex (sineWalk (q + 1))‖ ≤ 2 * walkRadius := by
  refine (Complex.norm_le_abs_re_add_abs_im _).trans ?_
  have hre := abs_sub_walkRadius_mul_ediv_le ((sineWalk q).1 * strideCos - (sineWalk q).2 * strideSin)
  have him := abs_sub_walkRadius_mul_ediv_le ((sineWalk q).1 * strideSin + (sineWalk q).2 * strideCos)
  rify at hre him
  simp [toComplex, sineWalk]
  linarith

/-- The errors of a stride add up: that of the stride itself, the rounding, and the error so far, which the stride does not
lengthen. -/
theorem walk_near (q : Nat) : ‖toComplex (sineWalk q) - walkRadius * exactStride ^ q‖ ≤ 300 * q := by
  induction q with
  | zero => simp [toComplex, sineWalk, Complex.ext_iff]
  | succ q ih =>
    have radius_pos : (0 : ℝ) < walkRadius := by norm_num [walkRadius]
    have norm_radius : ‖(walkRadius : ℂ)‖ = walkRadius := by simp [walkRadius]
    set stride := toComplex (strideCos, strideSin)
    have carried : ‖(toComplex (sineWalk q) - walkRadius * exactStride ^ q) * stride‖ ≤ 300 * q * walkRadius := by
      rw [norm_mul]
      exact mul_le_mul ih norm_toComplex_stride_le (norm_nonneg _) (by positivity)
    have turned : ‖walkRadius * exactStride ^ q * (stride - walkRadius * exactStride)‖ ≤ walkRadius * 297 := by
      rw [norm_mul, norm_mul, norm_pow, norm_exactStride, one_pow, mul_one, norm_radius]
      exact mul_le_mul_of_nonneg_left stride_near radius_pos.le
    have rounded := walk_rounding_le q
    have errors : walkRadius * (toComplex (sineWalk (q + 1)) - walkRadius * exactStride ^ (q + 1))
        = (toComplex (sineWalk q) - walkRadius * exactStride ^ q) * stride
          + walkRadius * exactStride ^ q * (stride - walkRadius * exactStride)
          - (toComplex (sineWalk q) * stride - walkRadius * toComplex (sineWalk (q + 1))) := by ring
    refine le_of_mul_le_mul_left ?_ radius_pos
    calc
      walkRadius * ‖toComplex (sineWalk (q + 1)) - walkRadius * exactStride ^ (q + 1)‖
          = ‖walkRadius * (toComplex (sineWalk (q + 1)) - walkRadius * exactStride ^ (q + 1))‖ := by
        rw [norm_mul, norm_radius]
      _ ≤ 300 * q * walkRadius + walkRadius * 297 + 2 * walkRadius := by
        rw [errors]
        exact (norm_sub_le _ _).trans (add_le_add ((norm_add_le _ _).trans (add_le_add carried turned)) rounded)
      _ ≤ walkRadius * (300 * (q + 1 : ℕ)) := by
        push_cast
        linarith

theorem walk_sine_near (q : Nat) :
    |((sineWalk q).2 : ℝ) - walkRadius * Real.sin (2 * Real.pi * q / 4096)| ≤ 300 * q := by
  have near := (Complex.abs_im_le_norm _).trans (walk_near q)
  rwa [Complex.sub_im, ← Complex.ofReal_intCast, Complex.im_ofReal_mul, exactStride_pow_im] at near

/-- The sine entry of the angle `x` is nearest to its sine. -/
def Nearest (entry : ℤ) (x : ℝ) : Prop := |(entry : ℝ) - 32767 * Real.sin x| < 1 / 2

theorem Nearest.neg {entry : ℤ} {x : ℝ} (h : Nearest entry x) : Nearest (-entry) (-x) := by
  unfold Nearest at *
  rw [Real.sin_neg]
  push_cast
  rwa [mul_neg, ← neg_sub', abs_neg]

theorem Nearest.pi_sub {entry : ℤ} {x : ℝ} (h : Nearest entry x) : Nearest entry (Real.pi - x) := by
  rwa [Nearest, Real.sin_pi_sub]

theorem Nearest.add_two_pi {entry : ℤ} {x : ℝ} (h : Nearest entry x) : Nearest entry (x + 2 * Real.pi) := by
  rwa [Nearest, Real.sin_add_two_pi]

/-- In the first quarter turn the walk's margin covers its error. -/
theorem sineQuarter_nearest {q : Nat} (h : q ≤ 1024) : Nearest (sineQuarter q) (2 * Real.pi * q / 4096) := by
  have radius_pos : (0 : ℝ) < walkRadius := by norm_num [walkRadius]
  have half : ((walkRadius / 2 : ℤ) : ℝ) = walkRadius * (1 / 2) := by norm_num [walkRadius]
  have margin : |(walkRadius * sineQuarter q - 32767 * (sineWalk q).2 : ℝ)| + 32767 * (300 * q) < walkRadius * (1 / 2) := by
    rw [← half]
    exact_mod_cast sineQuarter_near_walk q (by omega)
  have error := walk_sine_near q
  unfold Nearest
  set x := Real.sin (2 * Real.pi * q / 4096)
  refine lt_of_mul_lt_mul_left ?_ radius_pos.le
  calc
    walkRadius * |(sineQuarter q : ℝ) - 32767 * x|
        = |(walkRadius * sineQuarter q - 32767 * (sineWalk q).2 : ℝ) + 32767 * ((sineWalk q).2 - walkRadius * x)| := by
      rw [← abs_of_pos radius_pos, ← abs_mul, abs_of_pos radius_pos]
      ring_nf
    _ ≤ |(walkRadius * sineQuarter q - 32767 * (sineWalk q).2 : ℝ)| + 32767 * |(sineWalk q).2 - walkRadius * x| := by
      refine (abs_add_le _ _).trans_eq ?_
      rw [abs_mul, abs_of_pos (by norm_num : (0 : ℝ) < 32767)]
    _ < walkRadius * (1 / 2) := by linarith

/-- The other three quarter turns by the symmetries of the sine. -/
theorem sine_nearest {q : Nat} (h : q < 4096) : Nearest (sine q) (2 * Real.pi * q / 4096) := by
  unfold sine
  split_ifs with first second third
  · exact sineQuarter_nearest first
  · have near := (sineQuarter_nearest (q := 2048 - q) (by omega)).pi_sub
    rw [Nat.cast_sub second] at near
    convert near using 1
    push_cast
    ring
  · have near := (sineQuarter_nearest (q := q - 2048) (by omega)).pi_sub.neg.add_two_pi
    rw [Nat.cast_sub (by omega)] at near
    convert near using 1
    push_cast
    ring
  · have near := (sineQuarter_nearest (q := 4096 - q) (by omega)).neg.add_two_pi
    rw [Nat.cast_sub h.le] at near
    convert near using 1
    push_cast
    ring

/-- Settles O16: the entries are nearest, and the cosine is defined as the sine a quarter turn on. -/
theorem sineTableIsNearest : Obligations.SineTableIsNearest :=
  fun _ h => ⟨sine_nearest h, rfl⟩

end Sys2Proof.Machine

/-! Clearance: the ceilings of the throws and of the widening (R103, R129), and the rows of a sector's class (R131). -/

namespace Sys2Proof.Machine

/-! ### Ceilings -/

/-- The ceiling is the least natural whose multiple reaches the dividend. -/
theorem ceilDiv_le_iff (n c : Nat) {d : Nat} (hd : 0 < d) : ceilDiv n d ≤ c ↔ n ≤ d * c := by
  rw [← ceilDiv_le_iff_le_mul hd, Nat.ceilDiv_eq_add_pred_div, Nat.add_sub_assoc hd, ceilDiv]

theorem ceilDiv_eq_ceil (n : Nat) {d : Nat} (hd : 0 < d) : (ceilDiv n d : ℤ) = ⌈(n : ℚ) / d⌉ := by
  rw [← Int.natCast_ceil_eq_ceil (by positivity)]
  refine congrArg _ (eq_of_forall_ge_iff fun c => ?_)
  rw [ceilDiv_le_iff n c hd, Nat.ceil_le, div_le_iff₀' (by exact_mod_cast hd)]
  norm_cast

theorem ceilDiv_pos {n d : Nat} (hn : 0 < n) (hd : 0 < d) : 0 < ceilDiv n d := by
  have least := ceilDiv_le_iff n 0 hd
  omega

/-! ### Throws -/

/-- The quotient of R103 before its ceiling, for the difference `n` of squares in mm². -/
theorem ceilDiv_curve_eq_ceil (n : Nat) {radius : Int} (h : radius ≠ 0) :
    (ceilDiv n (800 * radius.natAbs) : ℤ) = ⌈(n : ℚ) / (800 * |(radius : ℚ)|)⌉ := by
  rw [ceilDiv_eq_ceil n (by omega)]
  simp

theorem innerThrow_eq_ceil {radius : Int} (lc : Nat) (h : radius ≠ 0) :
    (innerThrow radius lc : ℤ) = min 5000 ⌈((lc : ℚ) ^ 2) / (800 * |(radius : ℚ)|)⌉ := by
  rw [innerThrow, if_neg h, Nat.cast_min, ceilDiv_curve_eq_ceil _ h]
  push_cast
  rw [sq]

/-- With `lc ≤ lo` the difference of the squares is not negative, so the model's subtraction is exact. -/
theorem outerThrow_eq_ceil {radius : Int} {lc lo : Nat} (hle : lc ≤ lo) (h : radius ≠ 0) :
    (outerThrow radius lc lo : ℤ) = min 5000 ⌈((lo : ℚ) ^ 2 - (lc : ℚ) ^ 2) / (800 * |(radius : ℚ)|)⌉ := by
  rw [outerThrow, if_neg h, Nat.cast_min, ceilDiv_curve_eq_ceil _ h, Nat.cast_sub (Nat.mul_self_le_mul_self hle)]
  push_cast
  rw [sq, sq]

/-! ### The widening -/

/-- The sectors on the right of the ring are those whose centre direction has a positive cosine, and no centre direction is
vertical (R129). -/
theorem sector_cosine : ∀ s < 128,
    (0 < cosine (32 * s + 16) ↔ s < 32 ∨ 96 ≤ s) ∧ cosine (32 * s + 16) ≠ 0 ∧ (cosine (32 * s + 16)).natAbs ≤ 32767 := by
  decide +kernel

/-- The quotient of R129, its product exact before the ceiling. -/
theorem ceilDiv_reach_eq_ceil (throw : Nat) (cy : Int) :
    (ceilDiv (throw * cy.natAbs) 32767 : ℤ) = ⌈((throw : ℚ) * |(cy : ℚ)|) / 32767⌉ := by
  rw [ceilDiv_eq_ceil _ (by decide), Nat.cast_mul, Nat.cast_natAbs, Int.cast_abs, Nat.cast_ofNat]

/-- A sector lies inside the curve when its side of the ring is the side to which the curve turns. -/
theorem widening_eq_ceilDiv {radius : Int} (inner outer : Nat) {s : Nat} (hradius : radius ≠ 0) (hs : s < 128) :
    widening radius inner outer s
      = ceilDiv
        ((if (s < 32 ∨ 96 ≤ s) ∧ 0 < radius ∨ ¬(s < 32 ∨ 96 ≤ s) ∧ radius < 0 then inner else outer)
          * (cosine (32 * s + 16)).natAbs) 32767 := by
  obtain ⟨right, -, -⟩ := sector_cosine s hs
  have inside : decide (0 < cosine (32 * s + 16)) = decide (0 < radius)
      ↔ (s < 32 ∨ 96 ≤ s) ∧ 0 < radius ∨ ¬(s < 32 ∨ 96 ≤ s) ∧ radius < 0 := by
    rw [decide_eq_decide, right]
    omega
  simp only [widening, inside]

/-! ### Classes and margins -/

theorem widenedLimit_eq_none {copy : RouteCopy} {limit : Nat} (p : RunParams) (s : Nat)
    (h : ∀ e, copy = .entry e → e.zone = .noAssess ∨ limit = 0) : widenedLimit p copy limit s = none := by
  cases copy with
  | entry e => rcases h e rfl with zone | zero <;> simp [widenedLimit, *]
  | outside => rfl
  | unmappedCell cell => rfl

theorem widenedLimit_entry {e : EntryCopy} {limit : Nat} (p : RunParams) (s : Nat) (zone : e.zone = .assess)
    (hlimit : limit ≠ 0) :
    widenedLimit p (.entry e) limit s
      = some (limit + widening e.radius (innerThrow e.radius p.bogieCentres)
        (outerThrow e.radius p.bogieCentres p.vehicleLength) s) := by
  rw [widenedLimit, if_pos ⟨zone, hlimit⟩]

theorem assessSector_of_void {acc : SectorAcc} (p : RunParams) (copy : RouteCopy) (limit s : Nat) (h : acc.count = 0) :
    assessSector p copy limit s acc = ⟨s, .void, none, acc⟩ := by
  rw [assessSector, if_pos h]

theorem assessSector_of_noLimit {p : RunParams} {copy : RouteCopy} {limit s : Nat} {acc : SectorAcc} (h : acc.count ≠ 0)
    (hlimit : widenedLimit p copy limit s = none) :
    assessSector p copy limit s acc = ⟨s, .unassessed, none, acc⟩ := by
  rw [assessSector, if_neg h, hlimit]

theorem assessSector_of_limit {p : RunParams} {copy : RouteCopy} {limit s w : Nat} {acc : SectorAcc} (h : acc.count ≠ 0)
    (hlimit : widenedLimit p copy limit s = some w) :
    assessSector p copy limit s acc
      = ⟨s, classOfMargin (copyMargin copy) ((acc.minRadius.getD 0 : Int) - w), some ((acc.minRadius.getD 0 : Int) - w), acc⟩ := by
  rw [assessSector, if_neg h, hlimit]

/-- Settles O24: the rows of the class, the throws and the widening each from their own equation. -/
theorem sectorClearance : Obligations.SectorClearance := by
  refine ⟨fun p copy limit s acc => ⟨fun void => ?_, fun counted unlimited => ?_, ?_⟩, ?_, ?_⟩
  · simp [assessSector_of_void p copy limit s void]
  · simp [assessSector_of_noLimit counted (widenedLimit_eq_none p s unlimited)]
  · rintro e rho counted rfl zone hlimit radius
    simp [assessSector_of_limit counted (widenedLimit_entry p s zone hlimit), radius, classOfMargin, copyMargin]
  · exact fun radius lc lo hle =>
      ⟨fun straight => by simp [innerThrow, outerThrow, straight],
        fun curved => ⟨innerThrow_eq_ceil lc curved, outerThrow_eq_ceil hle curved⟩⟩
  · intro radius inner outer s curved hs _ _ right throw
    obtain ⟨-, cosine_ne, cosine_le⟩ := sector_cosine s hs
    have widened : widening radius inner outer s = ceilDiv (throw * (cosine (32 * s + 16)).natAbs) 32767 :=
      widening_eq_ceilDiv inner outer curved hs
    rw [widened]
    refine ⟨ceilDiv_reach_eq_ceil _ _, ?_, fun thrown => ?_⟩
    · rw [ceilDiv_le_iff _ _ (by decide), mul_comm]
      exact Nat.mul_le_mul_right _ cosine_le
    · exact ceilDiv_pos (Nat.mul_pos thrown (Int.natAbs_pos.2 cosine_ne)) (by decide)

end Sys2Proof.Machine

/-! The Outbound Queue's offers: a PROFILE in the first form that fits (R152, R153), the points of a slice (R154, R155), and the
records that wait for space (R158, R159). -/

namespace Sys2Proof.Machine

/-! ### PROFILE records -/

/-- The forms of a level are the two larger ones as far as the level allows them, then SUMMARY (R153). -/
theorem formsAt_eq_append (level : Nat) :
    formsAt level
      = (if level ≤ 3 then [.full] else []) ++ ((if level ≤ 4 then [.compact] else []) ++ [.summary]) := by
  rcases Nat.lt_trichotomy level 4 with below | rfl | above
  · simp [formsAt, Nat.le_of_lt_succ below, below.le]
  · rfl
  · simp [formsAt, above.ne', (Nat.lt_of_succ_lt above).not_ge, above.not_ge]

theorem tryForms_cons_of_fits {c : ProfileContent} {f : ProfileForm} {s : State} (rest : List ProfileForm)
    (fit : fitsData s.queue (formSize f)) :
    tryForms c (f :: rest) s
      = s.withQueue { joinData (profileRecord c f) s.queue with counters := countForm f s.queue.counters } :=
  if_pos fit

/-- A form that the level leaves out, or that does not fit, is passed over (R153). -/
theorem tryForms_append_of_skipped {c : ProfileContent} {f : ProfileForm} {s : State} {allowed : Prop} [Decidable allowed]
    (rest : List ProfileForm) (skipped : allowed → ¬fitsData s.queue (formSize f)) :
    tryForms c ((if allowed then [f] else []) ++ rest) s = tryForms c rest s := by
  split
  · exact if_neg (skipped ‹_›)
  · rfl

/-- Settles O28: the forms larger than the one that joins are passed over, and with none left the profile is dropped. -/
theorem profileOffered : Obligations.ProfileOffered := by
  intro c s o p level k fits
  let leveled := s.withQueue { s.queue with level := level }
  have fit (f : ProfileForm) : fitsData leveled.queue (formSize f) ↔ fits (formSize f) := fitsData_iff _ _
  have offer : offerProfile c s
      = tryForms c
          ((if level ≤ 3 then [.full] else []) ++ ((if level ≤ 4 then [.compact] else []) ++ [.summary])) leveled :=
    congrArg (tryForms c · leveled) (formsAt_eq_append level)
  rw [offer]
  refine ⟨fun full joins => ?_, fun compact noFull joins => ?_, fun noFull noCompact joins => ?_, fun noSummary => ?_⟩
  · rw [if_pos full]
    exact tryForms_cons_of_fits _ ((fit .full).2 joins)
  · rw [tryForms_append_of_skipped _ fun full => (fit .full).not.2 (noFull full), if_pos compact]
    exact tryForms_cons_of_fits _ ((fit .compact).2 joins)
  · rw [tryForms_append_of_skipped _ fun full => (fit .full).not.2 (noFull full),
      tryForms_append_of_skipped _ fun compact => (fit .compact).not.2 (noCompact compact)]
    exact tryForms_cons_of_fits _ ((fit .summary).2 joins)
  · have none_fits {f : ProfileForm} : ¬fitsData leveled.queue (formSize f) := fun joins => by
      have least : 48 ≤ formSize f := by cases f <;> decide
      obtain ⟨room, dataRoom⟩ := (fit f).1 joins
      exact noSummary ⟨by omega, by omega⟩
    rw [tryForms_append_of_skipped _ fun _ => none_fits, tryForms_append_of_skipped _ fun _ => none_fits]
    exact (if_neg none_fits : tryForms c [.summary] leveled = dropProfile c leveled)

/-! ### The point path -/

/-- A level's step is 2 to the level, and no point is kept from level 3 on (R154). -/
theorem keeps_iff (level counter : Nat) : keeps level counter ↔ level ≤ 2 ∧ counter % 2 ^ level = 0 := by
  match level with
  | 0 | 1 | 2 => simp [keeps, keepStep]
  | _ + 3 => simp [keeps, keepStep]

/-- Every step divides 4, so that the keep counter may be taken modulo 4 (R154). -/
theorem keeps_mod_four_add (level m i : Nat) : keeps level (m % 4 + i) = keeps level (m + i) := by
  refine Bool.eq_iff_iff.2 ((keeps_iff ..).trans (.trans (and_congr_right fun low => ?_) (keeps_iff ..).symm))
  have divides : 2 ^ level ∣ 4 := pow_dvd_pow 2 low
  rw [Nat.add_mod, Nat.mod_mod_of_dvd m divides, ← Nat.add_mod]

theorem decimate_snd (level : Nat) {counter : Nat} (points : List CorrectedPoint) (h : counter < 4) :
    (decimate level counter points).2 = (counter + points.length) % 4 := by
  induction points generalizing counter with
  | nil => exact (Nat.mod_eq_of_lt h).symm
  | cons p rest ih =>
    rw [decimate, ih (Nat.mod_lt _ (by decide)), List.length_cons]
    omega

theorem decimate_fst (level counter : Nat) (points : List CorrectedPoint) :
    (decimate level counter points).1
      = (((List.range points.length).filter fun i => keeps level (counter + i)).filterMap fun i => points[i]?).map
          fun q => ⟨q.y, q.z, q.intensity⟩ := by
  induction points generalizing counter with
  | nil => rfl
  | cons p rest ih =>
    have shifted : (fun i => keeps level ((counter + 1) % 4 + i)) = fun i => keeps level (counter + (i + 1)) := by
      funext i
      rw [keeps_mod_four_add, Nat.add_assoc, Nat.add_comm 1]
    rw [decimate, ih, shifted, List.length_cons, List.range_succ_eq_map, List.filter_cons, List.filter_map]
    by_cases now : keeps level counter <;> simp [now, List.filterMap_map, Function.comp_def]

/-- Whatever becomes of the kept points, the keep counter of the slice's head advances (R154). -/
theorem offerPoints_queue_keep (sl : PassedSlice) (points : List CorrectedPoint) (s : State) :
    (offerPoints sl points s).queue.keep
      = s.queue.keep.set sl.head (decimate s.queue.level (s.queue.keep.get sl.head) points).2 := by
  simp only [offerPoints]
  split
  · rfl
  · split <;> rfl

/-- Settles O29: the decimation by induction on the points, the offer by whether a point is kept and the record fits. -/
theorem pointsDecimatedAndOffered : Obligations.PointsDecimatedAndOffered := by
  refine ⟨⟨fun level counter points small => ⟨decimate_snd level points small, ?_⟩, fun sl points s small => ⟨?_, ?_⟩⟩, ?_⟩
  · have kept (m : Nat) : keeps level m = decide (level ≤ 2 ∧ m % 2 ^ level = 0) :=
      Bool.eq_iff_iff.2 ((keeps_iff level m).trans decide_eq_true_iff.symm)
    simp only [decimate_fst, kept]
  · rw [offerPoints_queue_keep, PerHead.get_set, decimate_snd _ _ small]
  · exact fun q other => by rw [offerPoints_queue_keep, PerHead.get_set_ne _ _ _ _ other]
  · intro sl points s kept keep size fits
    have some_kept (h : kept ≠ []) : ¬kept.isEmpty := mt List.isEmpty_iff.1 h
    have fit : fitsData { s.queue with keep := keep } size ↔ fits := fitsData_iff _ _
    exact ⟨fun none_kept => if_pos (List.isEmpty_iff.2 none_kept),
      fun h joins => (if_neg (some_kept h)).trans (if_pos (fit.2 joins)),
      fun h full => (if_neg (some_kept h)).trans (if_neg (fit.not.2 full))⟩

/-! ### INTRUSION and RUN_END records -/

/-- With nothing in the holder no claim but that of a response stands against a control record (R146, R147). -/
theorem fitsControl_iff_of_holder_nil {q : Outbound} (n : Nat) (h : q.holder = []) :
    fitsControl q n ↔ occupancy q + q.responseClaim + n ≤ 65536 := by
  rw [fitsControl_iff, holderClaim, h, totalSize_nil, Nat.add_zero]

theorem offerIntrusion_of_fits {r : IntrusionRecord} {s : State} (empty : s.queue.holder = [])
    (fit : fitsControl s.queue (recordSize (.intrusion r))) :
    offerIntrusion r s = (s.withQueue (joinControl (.intrusion r) s.queue), false) := by
  rw [offerIntrusion, if_pos (List.isEmpty_iff.2 empty), if_pos fit]

theorem offerIntrusion_of_not_fits {r : IntrusionRecord} {s : State} (empty : s.queue.holder = [])
    (full : ¬fitsControl s.queue (recordSize (.intrusion r))) :
    offerIntrusion r s = (s.withQueue (intoHolder (.intrusion r) s.queue), false) := by
  rw [offerIntrusion, if_pos (List.isEmpty_iff.2 empty), if_neg full]

theorem offerIntrusion_of_waiting {r : IntrusionRecord} {s : State} (waiting : s.queue.holder ≠ [])
    (place : heldIntrusions s.queue < 2) :
    offerIntrusion r s = (s.withQueue (intoHolder (.intrusion r) s.queue), false) := by
  rw [offerIntrusion, if_neg (mt List.isEmpty_iff.1 waiting), if_pos place]

theorem offerIntrusion_of_two_held (r : IntrusionRecord) {s : State} (two : 2 ≤ heldIntrusions s.queue) :
    offerIntrusion r s = (loseIntrusion r s, true) := by
  have waiting : s.queue.holder ≠ [] := fun empty => by simp [heldIntrusions, empty] at two
  rw [offerIntrusion, if_neg (mt List.isEmpty_iff.1 waiting), if_neg two.not_gt]

theorem offerRunEnd_of_fits {e : RunEndRecord} {s : State} (empty : s.queue.holder = [])
    (fit : fitsControl s.queue (recordSize (.runEnd e))) :
    offerRunEnd e s = s.withQueue (joinControl (.runEnd e) s.queue) :=
  if_pos (Bool.and_eq_true_iff.2 ⟨List.isEmpty_iff.2 empty, fit⟩)

theorem offerRunEnd_of_waits {e : RunEndRecord} {s : State}
    (waits : s.queue.holder = [] → ¬fitsControl s.queue (recordSize (.runEnd e))) :
    offerRunEnd e s = s.withQueue (intoHolder (.runEnd e) s.queue) :=
  if_neg fun joins => by
    obtain ⟨empty, fit⟩ := Bool.and_eq_true_iff.1 joins
    exact waits (List.isEmpty_iff.1 empty) fit

/-! ### A lost INTRUSION record

An EVENT record that is dropped moves the counters of EVENT records and those of the soft slot alone (R157, R186). -/

@[simp] theorem offerEvent_queue_holder (e : EventRecord) (s : State) : (offerEvent e s).queue.holder = s.queue.holder := by
  unfold offerEvent; split <;> rfl

@[simp] theorem offerEvent_queue_intrusionLost (e : EventRecord) (s : State) :
    (offerEvent e s).queue.counters.intrusionLost = s.queue.counters.intrusionLost := by
  unfold offerEvent; split <;> rfl

@[simp] theorem offerEvent_run_intrusionsDropped (e : EventRecord) (s : State) :
    (offerEvent e s).run.counters.intrusionsDropped = s.run.counters.intrusionsDropped := by
  unfold offerEvent; split <;> rfl

@[simp] theorem offerEvent_faults_hardReported (e : EventRecord) (s : State) :
    (offerEvent e s).faults.hardReported = s.faults.hardReported := by
  unfold offerEvent; split <;> rfl

@[simp] theorem loseIntrusion_queue_holder (r : IntrusionRecord) (s : State) :
    (loseIntrusion r s).queue.holder = s.queue.holder := by
  simp [loseIntrusion, raiseHard]

@[simp] theorem loseIntrusion_queue_intrusionLost (r : IntrusionRecord) (s : State) :
    (loseIntrusion r s).queue.counters.intrusionLost = inc32 s.queue.counters.intrusionLost := by
  simp [loseIntrusion, raiseHard]

@[simp] theorem loseIntrusion_run_intrusionsDropped (r : IntrusionRecord) (s : State) :
    (loseIntrusion r s).run.counters.intrusionsDropped = inc32 s.run.counters.intrusionsDropped := by
  simp [loseIntrusion, raiseHard]

@[simp] theorem loseIntrusion_faults_hardReported (r : IntrusionRecord) (s : State) :
    (loseIntrusion r s).faults.hardReported = inc32 s.faults.hardReported := by
  simp [loseIntrusion, raiseHard, captureHard]

/-- A lost INTRUSION record leaves all but the queue, the run and the faults as it was (R159). -/
theorem loseIntrusion_frame (r : IntrusionRecord) (s : State) : Frame [.queue, .run, .faults] s (loseIntrusion r s) := by
  refine ⟨loseIntrusion_pending r s, fun b outside => ?_⟩
  cases b with
  | queue | run | faults => simp at outside
  | ports | correctors | odo | route | assembler | comparator | mgmt | choices => simp [sameBlock]

/-- Settles O30: each place of a record by what the holder holds, and the loss by what the offer of its EVENT keeps. -/
theorem intrusionWaitsOrIsLost : Obligations.IntrusionWaitsOrIsLost := by
  intro r e s fits size
  have fit (empty : s.queue.holder = []) {n : Nat} : fitsControl s.queue n ↔ fits n :=
    fitsControl_iff_of_holder_nil n empty
  refine ⟨fun empty joins => offerIntrusion_of_fits empty ((fit empty).2 joins), ?_, fun two => ?_,
    fun empty joins => offerRunEnd_of_fits empty ((fit empty).2 joins), ?_⟩
  · rintro (⟨empty, full⟩ | ⟨waiting, place⟩)
    · exact offerIntrusion_of_not_fits empty ((fit empty).not.2 full)
    · exact offerIntrusion_of_waiting waiting place
  · rw [offerIntrusion_of_two_held r two]
    exact ⟨rfl, loseIntrusion_frame r s, loseIntrusion_queue_holder r s, loseIntrusion_queue_intrusionLost r s,
      loseIntrusion_run_intrusionsDropped r s, loseIntrusion_run_runState r s, loseIntrusion_faults_hardReported r s⟩
  · rintro (⟨empty, full⟩ | waiting)
    · exact offerRunEnd_of_waits fun _ => (fit empty).not.2 full
    · exact offerRunEnd_of_waits fun empty => absurd empty waiting

end Sys2Proof.Machine

/-! What a command can do to the Outbound Queue and to the capture slots: a few moves, one after another. The offers of records,
the closures and the halt are chains of moves; the laws of the queue and of the slot are then facts about one move. -/

namespace Sys2Proof.Machine

/-! ### Moves -/

/-- A control record can join the list at once: it fits, and where it is of a kind that waits, none waits before it (R146, R157,
R158). -/
def joinsAtOnce (q : Outbound) (r : Record) : Prop :=
  fitsControl q (recordSize r) = true ∧ (waitsForSpace r = true → q.holder = [])

/-- A record can wait in the holder (R158): it is of a kind that waits, at the head of the holder only for want of space, and
as an INTRUSION record at most the second. -/
def waitsInHolder (q : Outbound) (r : Record) : Prop :=
  waitsForSpace r = true ∧ recordSize r ≤ 88
    ∧ (q.holder = [] → fitsControl q (recordSize r) = false)
    ∧ (isIntrusion r = true → heldIntrusions q < 2)

/-- One move of the queue or of a capture slot, or a change that neither sees. -/
inductive Move (s : State) : State → Prop where
  | quiet {t : State} : t.queue = s.queue → t.faults.hard = s.faults.hard → t.faults.soft = s.faults.soft → Move s t
  | figures (keep : PerHead Nat) (k : QueueCounters) : Move s (s.withQueue { s.queue with keep := keep, counters := k })
  | level (p : RunParams) : Move s (s.withQueue { s.queue with level := nextLevel p s.queue })
  | joinsControl (r : Record) : joinsAtOnce s.queue r → Move s (s.withQueue (joinControl r s.queue))
  | waits (r : Record) : waitsInHolder s.queue r → Move s (s.withQueue (intoHolder r s.queue))
  | joinsData (r : Record) (k : QueueCounters) : fitsData s.queue (recordSize r) = true →
      Move s (s.withQueue { joinData r s.queue with counters := k })
  | soft (e : EventRecord) : Move s (s.withFaults (captureSoft e s.faults))
  | hard (e : EventRecord) : Move s (s.withFaults (captureHard e s.faults))
  | eventLoss : Move s (s.withFaults (captureEventLoss s.faults))

/-- Moves one after another. -/
abbrev Moves : State → State → Prop := Relation.ReflTransGen Move

/-- What every move keeps, a chain of moves keeps. -/
theorem Moves.keeps {P : State → Prop} {s t : State} (m : Moves s t) (h : ∀ u v, P u → Move u v → P v) (hs : P s) : P t := by
  induction m with
  | refl => exact hs
  | tail _ last ih => exact h _ _ ih last

section
variable {s t : State}

/-- A change that the queue and the slots do not see. -/
theorem quiet_moves {u : State} (m : Moves s t) (hq : u.queue = t.queue := by rfl)
    (hh : u.faults.hard = t.faults.hard := by rfl) (hs : u.faults.soft = t.faults.soft := by rfl) : Moves s u :=
  m.tail (.quiet hq hh hs)

/-! ### Offers are moves -/

theorem dropEvent_moves (m : Moves s t) : Moves s (dropEvent t) := by
  have counted : Moves s ((t.withQueue { t.queue with counters :=
      { t.queue.counters with eventLost := inc32 t.queue.counters.eventLost } }).withCounters
      { t.run.counters with eventsDropped := inc32 t.run.counters.eventsDropped }) :=
    quiet_moves (m.tail (.figures t.queue.keep _))
  exact counted.tail .eventLoss

theorem offerEvent_moves {e : EventRecord} (m : Moves s t) : Moves s (offerEvent e t) := by
  unfold offerEvent
  split
  · exact m.tail (.joinsControl _ ⟨‹_›, by simp [waitsForSpace]⟩)
  · exact dropEvent_moves m

theorem raiseSoft_moves {source : Source} {detail : EventDetail} (m : Moves s t) : Moves s (raiseSoft source detail t) :=
  (offerEvent_moves m).tail (.soft _)

theorem raiseHard_moves {source : Source} {detail : EventDetail} (m : Moves s t) : Moves s (raiseHard source detail t) :=
  offerEvent_moves (m.tail (.hard _))

theorem loseIntrusion_moves {r : IntrusionRecord} (m : Moves s t) : Moves s (loseIntrusion r t) :=
  raiseHard_moves (quiet_moves (m.tail (.figures t.queue.keep
    { t.queue.counters with intrusionLost := inc32 t.queue.counters.intrusionLost })))

/-- An INTRUSION record reports at most 8 runs (R134), so that it is of at most 88 bytes. -/
theorem offerIntrusion_moves {r : IntrusionRecord} (few : r.runs.length ≤ 8) (m : Moves s t) :
    Moves s (offerIntrusion r t).1 := by
  have small : recordSize (.intrusion r) ≤ 88 := by simp only [recordSize]; omega
  by_cases empty : t.queue.holder = []
  · by_cases fit : fitsControl t.queue (recordSize (.intrusion r)) = true
    · rw [offerIntrusion_of_fits empty fit]
      exact m.tail (.joinsControl _ ⟨fit, fun _ => empty⟩)
    · rw [offerIntrusion_of_not_fits empty fit]
      exact m.tail (.waits _ ⟨rfl, small, fun _ => by simpa using fit, fun _ => by simp [heldIntrusions, empty]⟩)
  · by_cases place : heldIntrusions t.queue < 2
    · rw [offerIntrusion_of_waiting empty place]
      exact m.tail (.waits _ ⟨rfl, small, fun h => absurd h empty, fun _ => place⟩)
    · rw [offerIntrusion_of_two_held r (Nat.le_of_not_lt place)]
      exact loseIntrusion_moves m

theorem offerRunEnd_moves {e : RunEndRecord} (m : Moves s t) : Moves s (offerRunEnd e t) := by
  by_cases joins : t.queue.holder = [] ∧ fitsControl t.queue (recordSize (.runEnd e)) = true
  · rw [offerRunEnd_of_fits joins.1 joins.2]
    exact m.tail (.joinsControl _ ⟨joins.2, fun _ => joins.1⟩)
  · rw [offerRunEnd_of_waits fun empty fit => joins ⟨empty, fit⟩]
    exact m.tail (.waits _ ⟨rfl, (by decide : 64 ≤ 88), fun empty => by simpa [empty] using joins, fun h => by cases h⟩)

theorem dropProfile_moves {c : ProfileContent} (m : Moves s t) : Moves s (dropProfile c t) :=
  raiseSoft_moves (quiet_moves (m.tail (.figures t.queue.keep
    { t.queue.counters with profileDropped := inc32 t.queue.counters.profileDropped })))

theorem tryForms_moves {c : ProfileContent} {fs : List ProfileForm} (m : Moves s t) : Moves s (tryForms c fs t) := by
  induction fs with
  | nil => exact dropProfile_moves m
  | cons f rest ih =>
    by_cases fit : fitsData t.queue (formSize f) = true
    · rw [tryForms_cons_of_fits rest fit]
      exact m.tail (.joinsData _ _ (by rwa [recordSize_profileRecord]))
    · rw [tryForms, if_neg fit]
      exact ih

theorem offerProfile_moves {c : ProfileContent} (m : Moves s t) : Moves s (offerProfile c t) :=
  tryForms_moves (m.tail (.level t.run.params))

theorem offerPoints_moves {sl : PassedSlice} {points : List CorrectedPoint} (m : Moves s t) :
    Moves s (offerPoints sl points t) := by
  have advanced (keep : PerHead Nat) (k : QueueCounters) :
      Moves s (t.withQueue { t.queue with keep := keep, counters := k }) := m.tail (.figures keep k)
  simp only [offerPoints]
  split
  · exact advanced _ t.queue.counters
  · split
    · exact (advanced (t.queue.keep.set sl.head _) t.queue.counters).tail (.joinsData (.points _) _ ‹_›)
    · exact quiet_moves (advanced _ _)

/-! ### Closures and the halt are moves -/

theorem offerRuns_moves {cp : ClosedProfile} {a : Assessment} (m : Moves s t) : Moves s (offerRuns cp a t).1 := by
  unfold offerRuns
  split
  · exact m
  · exact offerIntrusion_moves (by simp [intrusionRecord, reportedRuns]) m

theorem assess_moves {cp : ClosedProfile} (m : Moves s t) : Moves s (assess cp t).1 := by
  have taken (x : Comparator) (a : Assessment) : Moves s (offerRuns cp a (t.withComparator x)).1 :=
    offerRuns_moves (quiet_moves m)
  simp only [assess]
  split
  · exact offerProfile_moves (offerEvent_moves (taken _ _))
  · exact offerProfile_moves (taken _ _)

theorem closeContext_moves {reason : Option CloseReason} {c : Context} (m : Moves s t) :
    Moves s (closeContext reason c t).1 :=
  assess_moves (quiet_moves m)

theorem closeAll_moves {l : List (Context × Option CloseReason)} (m : Moves s t) : Moves s (closeAll l t).1 := by
  induction l generalizing t with
  | nil => exact m
  | cons c rest ih => exact ih (closeContext_moves m)

theorem progressTest_moves (m : Moves s t) : Moves s (progressTest t).1 := closeAll_moves m

theorem haltRun_moves {fault : EventKind} (m : Moves s t) : Moves s (haltRun fault t) :=
  quiet_moves (offerRunEnd_moves (closeAll_moves m))

theorem decideHalt_moves {r : State × Bool} (m : Moves s r.1) : Moves s (decideHalt r) := by
  unfold decideHalt
  split
  · exact haltRun_moves m
  · exact m

theorem takeHardFault_moves {source : Source} {detail : EventDetail} (m : Moves s t) :
    Moves s (takeHardFault source detail t) := by
  simp only [takeHardFault]
  split
  · exact haltRun_moves (raiseHard_moves m)
  · exact raiseHard_moves m

theorem closeTimerExpires_cases (j : Nat) (s : State) :
    closeTimerExpires j s = s ∨ closeTimerExpires j s = endEvent (decideHalt (timeOutClosures j s)) := by
  unfold closeTimerExpires
  split
  · exact .inl rfl
  · split
    · exact .inr rfl
    · exact .inl rfl

/-! ### The events of the heads are moves -/

theorem startHeadLoss_moves (m : Moves s t) : Moves s (startHeadLoss t) := by
  unfold startHeadLoss
  split_ifs
  · exact m
  · exact m
  · exact quiet_moves m

theorem afterLeaving_moves (m : Moves s t) : Moves s (afterLeaving t) := by
  unfold afterLeaving
  split
  · exact decideHalt_moves (progressTest_moves (startHeadLoss_moves m))
  · exact m

theorem leftFrom_moves {before : PortState} (m : Moves s t) : Moves s (leftFrom before t) := by
  unfold leftFrom
  split
  · exact afterLeaving_moves m
  · exact m

theorem afterEntering_moves (m : Moves s t) : Moves s (afterEntering t) := by
  unfold afterEntering
  split
  · exact quiet_moves m
  · exact m

theorem frameTooLong_moves {p : HeadId} (m : Moves s t) : Moves s (frameTooLong p t) := by
  unfold frameTooLong
  split
  · exact quiet_moves m
  · exact m

theorem frameDiscarded_moves {p : HeadId} {kind : Byte} {payload : List Byte} {crc : BitVec 16} (m : Moves s t) :
    Moves s (frameDiscarded p kind payload crc t) := by
  unfold frameDiscarded
  split_ifs
  · exact m
  · exact quiet_moves m
  · exact quiet_moves m
  · exact quiet_moves m
  · exact m

theorem finishSlice_moves {turn : PointsTurn} {sl : PassedSlice} {points : List CorrectedPoint} {r : State × Bool}
    (m : Moves s r.1) : Moves s (finishSlice turn sl points r) := by
  cases turn with
  | beforeClosures => exact decideHalt_moves (r := (_, _)) (progressTest_moves (offerPoints_moves m))
  | beforeHaltDecision => exact decideHalt_moves (r := (_, _)) (offerPoints_moves (progressTest_moves m))
  | afterHaltDecision => exact offerPoints_moves (decideHalt_moves (r := (_, _)) (progressTest_moves m))

theorem placeSlice_moves {turn : PointsTurn} {j : Nat} {sl : PassedSlice} {r : State × Bool} (m : Moves s r.1) :
    Moves s (placeSlice turn j sl r) := by
  unfold placeSlice
  split
  · exact m
  · exact finishSlice_moves (r := (_, _)) (quiet_moves m)

theorem arriveAt_moves {turn : PointsTurn} {j : Nat} {sl : PassedSlice} (m : Moves s t) :
    Moves s (arriveAt turn j sl t) := by
  unfold arriveAt
  split
  · exact placeSlice_moves (r := (_, _)) m
  · split
    · exact placeSlice_moves (r := (_, _)) (quiet_moves m)
    · split
      · exact m
      · split
        · exact placeSlice_moves (r := (_, _)) (quiet_moves (closeContext_moves m))
        · exact quiet_moves m

theorem deliverSlice_moves {sl : PassedSlice} (m : Moves s t) : Moves s (deliverSlice sl t) := by
  unfold deliverSlice arriveSlice
  dsimp only
  split_ifs
  · exact quiet_moves m
  · exact quiet_moves m
  · exact quiet_moves m
  · exact arriveAt_moves (quiet_moves m)

theorem passOn_moves {p : HeadId} {f : SliceFields} {payload : List Byte} (m : Moves s t) :
    Moves s (passOn p f payload t) := by
  unfold passOn
  split
  · exact deliverSlice_moves (quiet_moves m)
  · exact m

theorem sequenceSlice_moves {p : HeadId} {f : SliceFields} (m : Moves s t) : Moves s (sequenceSlice p f t) := by
  have gap : Moves s (sliceGap p f t) := by
    unfold sliceGap
    dsimp only
    split_ifs
    · exact m
    · exact quiet_moves m
    · exact raiseSoft_moves (quiet_moves m)
  exact quiet_moves gap

theorem takeSlice_moves {p : HeadId} {f : SliceFields} {payload : List Byte} (m : Moves s t) :
    Moves s (takeSlice p f payload t) := by
  have entered : Moves s (if f.start = 0 then passOn p f payload (synchronise p f t) else countUnsynced p t) := by
    split
    · exact passOn_moves (afterEntering_moves (quiet_moves m))
    · exact quiet_moves m
  unfold takeSlice
  split
  · exact entered
  · exact entered
  · exact passOn_moves (sequenceSlice_moves m)
  · exact quiet_moves m
  · exact m
  · exact m

theorem sliceArrives_moves {p : HeadId} {payload : List Byte} (m : Moves s t) : Moves s (sliceArrives p payload t) := by
  unfold sliceArrives
  dsimp only
  split_ifs
  · exact m
  · exact quiet_moves m
  · exact takeSlice_moves m
  · exact raiseSoft_moves (quiet_moves m)

theorem silenceExpires_moves {p : HeadId} (m : Moves s t) : Moves s (silenceExpires p t) := by
  unfold silenceExpires
  dsimp only
  split
  · exact afterLeaving_moves (raiseSoft_moves (quiet_moves m))
  · exact m

theorem headStatusArrives_moves {p : HeadId} {payload : List Byte} (m : Moves s t) :
    Moves s (headStatusArrives p payload t) := by
  unfold headStatusArrives statusFault statusWarn
  dsimp only
  split_ifs
  · exact m
  · exact quiet_moves m
  all_goals split
  all_goals first
    | exact quiet_moves m
    | exact leftFrom_moves (raiseSoft_moves (quiet_moves m))
    | exact raiseSoft_moves (quiet_moves m)

/-! ### The events of the Odometry Unit are moves -/

theorem withOdo_moves {o : Odometry} (m : Moves s t) : Moves s (t.withOdo o) := quiet_moves m

theorem judgeLossA_moves (m : Moves s t) : Moves s (judgeLossA t) := by
  unfold judgeLossA
  dsimp only
  split
  · exact raiseSoft_moves (quiet_moves m)
  · exact m

theorem judgeLossB_moves (m : Moves s t) : Moves s (judgeLossB t) := by
  unfold judgeLossB
  dsimp only
  split
  · exact raiseSoft_moves (quiet_moves m)
  · exact m

theorem filterSlip_moves {dA dB : Int} (m : Moves s t) : Moves s (filterSlip dA dB t) := by
  unfold filterSlip
  dsimp only
  split
  · split
    · split
      · exact raiseSoft_moves (quiet_moves m)
      · exact quiet_moves m
    · split <;> exact quiet_moves m
  · exact m

theorem checkReversal_moves (m : Moves s t) : Moves s (checkReversal t) := by
  unfold checkReversal
  dsimp only
  split_ifs
  · exact raiseSoft_moves (quiet_moves m)
  · exact quiet_moves m
  · exact m

theorem foldl_missMarker_moves {ms : List Marker} (m : Moves s t) : Moves s (ms.foldl missMarker t) := by
  induction ms generalizing t with
  | nil => exact m
  | cons k rest ih => exact ih (raiseSoft_moves (quiet_moves m))

theorem integrate_moves {nA nB : Int} (m : Moves s t) : Moves s (integrate nA nB t) := by
  unfold integrate
  refine withOdo_moves (foldl_missMarker_moves (checkReversal_moves (withOdo_moves ?_)))
  exact filterSlip_moves (withOdo_moves (judgeLossB_moves (judgeLossA_moves (withOdo_moves m))))

theorem intervalExpires_moves (m : Moves s t) : Moves s (intervalExpires t) := by
  unfold intervalExpires
  dsimp only
  split
  · exact integrate_moves (quiet_moves m)
  · exact integrate_moves (quiet_moves m)
  all_goals exact quiet_moves m

theorem matchMarker_moves {k : Marker} (m : Moves s t) : Moves s (matchMarker k t) := by
  have judged {u : State} (m : Moves s u) : Moves s (judgeRecalibration k u) := by
    unfold judgeRecalibration recalibrate
    split
    · exact m
    · dsimp only
      split_ifs
      · exact raiseSoft_moves m
      · exact offerEvent_moves (quiet_moves m)
      · exact raiseSoft_moves m
      · exact m
  unfold matchMarker
  exact withOdo_moves (judged (quiet_moves m))

theorem detectMarker_moves (m : Moves s t) : Moves s (detectMarker t) := by
  unfold detectMarker searchMarkers
  dsimp only
  split_ifs
  · exact quiet_moves m
  · exact quiet_moves m
  · split
    · exact raiseSoft_moves (quiet_moves m)
    · split
      · exact matchMarker_moves (quiet_moves m)
      · exact raiseSoft_moves (quiet_moves m)
      · exact raiseSoft_moves (quiet_moves m)

/-! ### The run requests are moves -/

theorem startLinkLoss_moves (m : Moves s t) : Moves s (startLinkLoss t) := by
  unfold startLinkLoss
  split
  · exact quiet_moves m
  · exact m

theorem drain_moves (m : Moves s t) : Moves s (drain t) :=
  decideHalt_moves (r := (_, _)) (offerRunEnd_moves (closeAll_moves (quiet_moves m)))

end

end Sys2Proof.Machine

/-! What a command can do to the queue and to the capture slots, and the laws of the level and of the transmitter and holder
(R149, R151, R152, R158, R160). -/

namespace Sys2Proof.Machine

/-! ### Commands by what they do to the queue and the slots -/

/-- What the body of a request can do to the queue and the slots: moves, or what SET LEVEL FLOOR, RESET RUN and ACK FAULT do
besides. -/
inductive BodyEffect (s : State) : State → Prop where
  | moves {t : State} : Moves s t → BodyEffect s t
  | floor (f : Nat) : f ≤ 5 → BodyEffect s (s.withQueue { s.queue with floor := f, level := max s.queue.level f })
  | resetRun : BodyEffect s (resetRunEffect s)
  | acknowledgeHard : BodyEffect s (s.withFaults { s.faults with hard := acknowledge s.faults.hard })
  | acknowledgeSoft : BodyEffect s (s.withFaults { s.faults with soft := acknowledge s.faults.soft })

/-- A request that changes only what the queue and the slots do not see. -/
theorem BodyEffect.quiet {s t : State} (hq : t.queue = s.queue := by rfl) (hf : t.faults = s.faults := by rfl) :
    BodyEffect s t :=
  .moves (quiet_moves .refl hq (by rw [hf]) (by rw [hf]))

theorem BodyEffect.refl (s : State) : BodyEffect s s := .moves .refl

theorem installTarget_queue (st : Staging) (s : State) : (installTarget st s).queue = s.queue := by
  unfold installTarget; split <;> rfl

theorem installTarget_faults (st : Staging) (s : State) : (installTarget st s).faults = s.faults := by
  unfold installTarget; split <;> rfl

theorem requestBody_effect (k : Nat) (p : List Byte) (s : State) : BodyEffect s (requestBody k p s).1 := by
  apply requestBody_state k p s (BodyEffect s) (.refl s)
  case hTime => exact .quiet
  case hOpen =>
    rcases stageOpen_state p s with e | ⟨_, -, -, -, e⟩ <;> rw [e]
    exacts [.refl s, .quiet]
  case hPart =>
    rcases stagePart_state p s with e | ⟨_, -, -, -, e⟩ <;> rw [e]
    exacts [.refl s, .quiet]
  case hCommit =>
    rcases stageCommit_state p s with e | ⟨st, -, -, -, -, e⟩ <;> rw [e]
    exacts [.refl s, .quiet (installTarget_queue st s) (installTarget_faults st s)]
  case hDiscard =>
    rcases stageDiscard_state p s with e | e <;> rw [e]
    exacts [.refl s, .quiet]
  case hHead =>
    rcases configureHead_state p s with e | ⟨_, -, -, -, -, e⟩ <;> rw [e]
    exacts [.refl s, .quiet]
  case hMask =>
    rcases setMask_state p s with e | ⟨_, -, e⟩ <;> rw [e]
    exacts [.refl s, .quiet]
  case hOdo =>
    rcases setOdometry_state p s with e | ⟨-, -, e⟩ <;> rw [e]
    exacts [.refl s, .quiet]
  case hBase =>
    rcases setRouteBase_state p s with e | ⟨-, e⟩ <;> rw [e]
    exacts [.refl s, .quiet]
  case hWrite =>
    rcases writeRouteEntry_state p s with e | ⟨_, -, -, -, -, -, -, e⟩ <;> rw [e]
    exacts [.refl s, .quiet]
  case hClear =>
    rcases clearRouteEntry_state p s with e | ⟨-, -, e⟩ <;> rw [e]
    exacts [.refl s, .quiet]
  case hErase =>
    rcases eraseEnvelope_state p s with e | ⟨-, -, -, e⟩ <;> rw [e]
    exacts [.refl s, .quiet]
  case hMap =>
    rcases mapCells_state p s with e | ⟨-, -, -, e⟩ <;> rw [e]
    exacts [.refl s, .quiet]
  case hUnmap =>
    rcases unmapCells_state p s with e | ⟨-, -, e⟩ <;> rw [e]
    exacts [.refl s, .quiet]
  case hAdd =>
    rcases addMarker_state p s with e | ⟨-, -, -, e⟩ <;> rw [e]
    exacts [.refl s, .quiet]
  case hRemove =>
    rcases removeMarker_state p s with e | ⟨-, e⟩ <;> rw [e]
    exacts [.refl s, .quiet]
  case hParams =>
    rcases setRunParameters_state p s with e | ⟨-, -, -, -, e⟩ <;> rw [e]
    exacts [.refl s, .quiet]
  case hArm =>
    rcases arm_state p s with e | ⟨-, -, e⟩ <;> rw [e]
    exacts [.refl s, .moves (quiet_moves .refl)]
  case hStart =>
    rcases start_state p s with e | ⟨-, e⟩ <;> rw [e]
    · exact .refl s
    · refine .moves ?_
      unfold startLinkLossIfDown
      split
      · exact startHeadLoss_moves (quiet_moves .refl)
      · exact startLinkLoss_moves (startHeadLoss_moves (quiet_moves .refl))
  case hStop =>
    rcases stop_state p s with e | ⟨-, e⟩ <;> rw [e]
    exacts [.refl s, .moves (drain_moves .refl)]
  case hReset =>
    rcases resetRun_state p s with e | ⟨-, e⟩ <;> rw [e]
    exacts [.refl s, .resetRun]
  case hFloor =>
    rcases setLevelFloor_state p s with e | ⟨hf, e⟩ <;> rw [e]
    exacts [.refl s, .floor _ hf]
  case hAck =>
    rcases ackFault_state p s with e | e | e <;> rw [e]
    exacts [.refl s, .acknowledgeHard, .acknowledgeSoft]

/-- The state after the taking of a request of a kind. -/
def taken (k : Nat) (r : Request) (rest : List Request) (s : State) : State :=
  let t := requestBody k r.payload (beginTaking rest s)
  answered t.1 r t.1.mgmt.intake t.2.status t.2.payload (t.2.stamp.getD s.run.timebase)

/-- What a command does to the queue and the slots. -/
inductive Effect (c : Instr) (s : State) : State → Prop where
  | none : Effect c s s
  | event {u : State} : Moves s u → Effect c s (endEvent u)
  | power (lines : PowerLines) : (∃ l, c = .powerOn l) ∨ c = .resetInput → Effect c s (powerOnWith lines s)
  | down : Effect c s (endEvent (linkDown s))
  | up : Effect c s (endEvent (linkUp s))
  | complete : Effect c s (endEvent (completeTransmission s))
  | taken (k : Nat) (r : Request) (rest : List Request) : Ready s r rest → Effect c s (taken k r rest s)

/-- All that a taking can do: nothing, or the answer to the oldest request. -/
theorem takeRequest_taken (isKind : Nat → Bool) (k : Nat) (s : State) :
    takeRequest isKind (requestBody k) s = s
      ∨ ∃ r rest, Ready s r rest ∧ takeRequest isKind (requestBody k) s = taken k r rest s := by
  rcases takeRequest_cases isKind (requestBody k) s with e | ⟨r, rest, ready, -, e⟩
  · exact .inl e
  · exact .inr ⟨r, rest, ready, e⟩

theorem takeRequest_effect {c : Instr} (isKind : Nat → Bool) (k : Nat) (s : State) :
    Effect c s (takeRequest isKind (requestBody k) s) := by
  rcases takeRequest_taken isKind k s with e | ⟨r, rest, ready, e⟩ <;> rw [e]
  · exact .none
  · exact .taken k r rest ready

theorem ite_endEvent_effect {c : Instr} {s u : State} {due : Bool} (m : Moves s u) :
    Effect c s (if due then endEvent u else s) := by
  split
  · exact .event m
  · exact .none

theorem exec_effect {c : Instr} {s t : State} (h : exec c s = .next t) : Effect c s t := by
  cases exec_course h with
  | taking k _ _ _ => exact takeRequest_effect _ k s
  | unknown _ => exact takeRequest_effect _ 0 s
  | powerOn lines e => exact .power lines (.inl ⟨lines, e⟩)
  | resetInput e => exact .power _ (.inr e)
  | headCarrierLoss p _ => exact .event (leftFrom_moves (quiet_moves .refl))
  | headCarrierGain p _ => exact .event (quiet_moves .refl)
  | headFrameTooLong p _ => exact .event (frameTooLong_moves .refl)
  | headFrameDiscarded p kind payload crc _ => exact .event (frameDiscarded_moves .refl)
  | slice p payload _ => exact .event (sliceArrives_moves .refl)
  | headStatus p payload _ => exact .event (headStatusArrives_moves .refl)
  | silenceTimerExpiry p _ => exact .event (silenceExpires_moves .refl)
  | encoderTransition w p1 p2 _ => exact .event (quiet_moves .refl)
  | odometryIntervalExpiry _ => exact ite_endEvent_effect (intervalExpires_moves .refl)
  | markerDetection _ => exact .event (detectMarker_moves .refl)
  | closeTimerExpiry j _ =>
    rcases closeTimerExpires_cases j s with e | e <;> rw [e]
    · exact .none
    · exact .event (decideHalt_moves (closeAll_moves .refl))
  | alertHoldExpiry _ => exact ite_endEvent_effect (quiet_moves .refl)
  | headLossTimerExpiry _ => exact ite_endEvent_effect (takeHardFault_moves (quiet_moves .refl))
  | linkLossTimerExpiry _ => exact ite_endEvent_effect (takeHardFault_moves (quiet_moves .refl))
  | trunkLinkDown _ => exact .down
  | trunkLinkUp _ => exact .up
  | transmissionComplete _ => exact .complete
  | trunkFrameTooLong _ => exact .event (quiet_moves .refl (by simp) (by simp) (by simp))
  | trunkFrameDiscarded kind payload crc _ => exact .event (quiet_moves .refl (by simp) (by simp) (by simp))
  | request tag kind payload _ => exact .event (quiet_moves .refl (by simp) (by simp) (by simp))
  | timebaseAdvance _ => exact .event (quiet_moves .refl)

/-! ### The outbound side of the trunk link -/

theorem reofferRunEnd_moves {s t : State} {r : Option Record} (m : Moves s t) : Moves s (reofferRunEnd r t) := by
  unfold reofferRunEnd
  split
  · split
    · exact offerRunEnd_moves m
    · exact m
  · exact m

theorem completeRunEnd_moves {s t : State} {r : Record} (m : Moves s t) : Moves s (completeRunEnd r t) := by
  unfold completeRunEnd
  split
  · split
    · exact quiet_moves m
    · exact m
  · exact m

/-- The state in which the record in transmission has left its list, and was counted. -/
def recordLeft (k : QueueCounters) (s : State) : State := s.withQueue { dropSent s.queue with counters := k }

/-- The record in transmission is abandoned when there is one: it leaves its list, a copy may be offered again, and the holder is
served (R151). -/
theorem abandon_cases (s : State) :
    (sendingRecord s.queue = none ∧ abandon s = s.withQueue (dropSent s.queue))
      ∨ ∃ k u, Moves (recordLeft k s) u ∧ abandon s = u.withQueue (serveHolder u.queue) := by
  unfold abandon
  dsimp only
  split
  · exact .inl ⟨‹_›, rfl⟩
  · exact .inr ⟨_, _, reofferRunEnd_moves .refl, rfl⟩

/-- A transmission completes when there is one: the record leaves its list, the run may end, and the holder is served (R150). -/
theorem completeTransmission_cases (s : State) :
    completeTransmission s = s
      ∨ ∃ k u, Moves (recordLeft k s) u ∧ completeTransmission s = u.withQueue (serveHolder u.queue) := by
  unfold completeTransmission
  split
  · exact .inl rfl
  · exact .inr ⟨_, _, completeRunEnd_moves .refl, rfl⟩

theorem startLinkLoss_queue (s : State) : (startLinkLoss s).queue = s.queue := by
  unfold startLinkLoss; split <;> rfl

@[simp] theorem resetRunEffect_queue (s : State) : (resetRunEffect s).queue = resetQueue s.queue := rfl

/-! ### The law of the level -/

theorem nextLevel_law (p : RunParams) {q : Outbound} (h : levelLaw q) : levelLaw { q with level := nextLevel p q } := by
  obtain ⟨floor_le, le_five⟩ := h
  unfold levelLaw nextLevel
  dsimp only
  split_ifs <;> omega

theorem Move.level_law {s t : State} (h : levelLaw s.queue) (m : Move s t) : levelLaw t.queue := by
  cases m with
  | quiet hq _ _ => rwa [hq]
  | level p => exact nextLevel_law p h
  | _ => exact h

theorem Moves.level_law {s t : State} (m : Moves s t) (h : levelLaw s.queue) : levelLaw t.queue :=
  m.keeps (P := fun s => levelLaw s.queue) (fun _ _ => Move.level_law) h

theorem levelLaw_congr {q q' : Outbound} (hl : q'.level = q.level) (hf : q'.floor = q.floor) (h : levelLaw q) : levelLaw q' := by
  unfold levelLaw
  rwa [hl, hf]

theorem endEvent_level_law {s : State} (h : levelLaw s.queue) : levelLaw (endEvent s).queue :=
  levelLaw_congr (by simp) (by simp) h

/-- A record that has left, with what follows it, leaves the level alone. -/
theorem recordLeft_level_law {k : QueueCounters} {s u : State} (m : Moves (recordLeft k s) u) (h : levelLaw s.queue) :
    levelLaw (serveHolder u.queue) :=
  levelLaw_congr (by simp) (by simp) (m.level_law (levelLaw_congr (by simp [recordLeft]) (by simp [recordLeft]) h))

theorem BodyEffect.level_law {s t : State} (e : BodyEffect s t) (h : levelLaw s.queue) : levelLaw t.queue := by
  obtain ⟨floor_le, le_five⟩ := h
  cases e with
  | moves m => exact m.level_law ⟨floor_le, le_five⟩
  | floor f hf => exact ⟨Nat.le_max_right _ _, Nat.max_le.2 ⟨le_five, hf⟩⟩
  | resetRun =>
    exact levelLaw_congr (q := { s.queue with level := s.queue.floor }) (by simp [resetQueue]) (by simp [resetQueue])
      ⟨Nat.le_refl _, floor_le.trans le_five⟩
  | acknowledgeHard | acknowledgeSoft => exact ⟨floor_le, le_five⟩

/-- Settles O50: each move keeps the law, and so does what the link, a taking and power do besides. -/
theorem levelLawKept : Obligations.LevelLawKept := by
  intro s t h hstep
  refine step_keeps (fun s => levelLaw s.queue) (fun _ _ => id) (fun c s t h hexec => ?_) h hstep
  cases exec_effect hexec with
  | none => exact h
  | event m => exact endEvent_level_law (m.level_law h)
  | power lines _ => exact ⟨Nat.le_refl 0, Nat.zero_le 5⟩
  | down =>
    apply endEvent_level_law
    rw [linkDown, startLinkLoss_queue]
    rcases abandon_cases (s.withQueue { s.queue with linkUp := false }) with ⟨-, e⟩ | ⟨k, u, m, e⟩ <;> rw [e]
    · exact levelLaw_congr (by simp) (by simp) h
    · exact recordLeft_level_law m h
  | up => exact endEvent_level_law h
  | complete =>
    apply endEvent_level_law
    rcases completeTransmission_cases s with e | ⟨k, u, m, e⟩ <;> rw [e]
    · exact h
    · exact recordLeft_level_law m h
  | taken k r rest _ =>
    have body := (requestBody_effect k r.payload (beginTaking rest s)).level_law h
    exact levelLaw_congr (by simp [taken]) (by simp [taken]) body

end Sys2Proof.Machine

/-! The laws of the transmitter and of the holder (R149, R151, R158, R160), and the law of capacity of the queue (R146), each first
in the form that holds within an event, where the response claim may be set and the arbiter has not chosen. -/

namespace Sys2Proof.Machine

/-! ### The transmitter within an event -/

/-- Within an event a record in transmission is the oldest of its list and the link is UP; an idle transmitter may have records
to choose from. -/
def sendingLaw (q : Outbound) : Prop :=
  (q.sending = some .control → q.linkUp = true ∧ q.control ≠ []) ∧ (q.sending = some .data → q.linkUp = true ∧ q.data ≠ [])

theorem transmitterLaw_iff {q : Outbound} :
    transmitterLaw q ↔ sendingLaw q ∧ (q.sending = none → q.linkUp = true → q.control = [] ∧ q.data = []) := by
  unfold transmitterLaw sendingLaw
  rcases q.sending with _ | _ | _ <;> simp

theorem sendingLaw_of_none {q : Outbound} (h : q.sending = none) : sendingLaw q := by
  simp [sendingLaw, h]

/-- Records may join both lists. -/
theorem sendingLaw.mono {q q' : Outbound} (h : sendingLaw q) (hs : q'.sending = q.sending) (hl : q'.linkUp = q.linkUp)
    (hc : q.control ≠ [] → q'.control ≠ []) (hd : q.data ≠ [] → q'.data ≠ []) : sendingLaw q' := by
  unfold sendingLaw
  rw [hs, hl]
  exact ⟨fun e => ⟨(h.1 e).1, hc (h.1 e).2⟩, fun e => ⟨(h.2 e).1, hd (h.2 e).2⟩⟩

theorem Move.sending_law {s t : State} (h : sendingLaw s.queue) (m : Move s t) : sendingLaw t.queue := by
  cases m with
  | quiet hq _ _ => rwa [hq]
  | joinsControl r _ => exact h.mono rfl rfl (fun _ => by simp [joinControl]) id
  | joinsData r _ _ => exact h.mono rfl rfl id (fun _ => by simp [joinData])
  | _ => exact h

theorem Moves.sending_law {s t : State} (m : Moves s t) (h : sendingLaw s.queue) : sendingLaw t.queue :=
  m.keeps (P := fun s => sendingLaw s.queue) (fun _ _ => Move.sending_law) h

/-- Serving the holder takes nothing from either list. -/
theorem serveHolder_sending_law {q : Outbound} (h : sendingLaw q) : sendingLaw (serveHolder q) := by
  obtain ⟨n, e, -⟩ := serveHolder_spec q
  rw [e]
  exact h.mono rfl rfl (fun some_control => by simp [some_control]) id

/-- The arbiter's choice makes the law of the transmitter of it (R149). -/
theorem arbitrate_transmitter_law {q : Outbound} (h : sendingLaw q) : transmitterLaw (arbitrate q) := by
  rcases arbitrate_spec q with ⟨e, idle⟩ | ⟨-, up, ⟨e, some_control⟩ | ⟨e, -, some_data⟩⟩ <;> rw [e]
  · exact transmitterLaw_iff.2 ⟨h, idle⟩
  · exact ⟨up, some_control⟩
  · exact ⟨up, some_data⟩

/-! ### The holder within an event -/

/-- The records of the holder, whatever the space. -/
def heldLaw (q : Outbound) : Prop :=
  heldIntrusions q ≤ 2 ∧ ∀ r ∈ q.holder, waitsForSpace r = true ∧ recordSize r ≤ 88

/-- The oldest record of the holder does not fit beside the response claim. -/
def blockedLaw (q : Outbound) : Prop :=
  ∀ r, q.holder.head? = some r → 65536 < occupancy q + q.responseClaim + recordSize r

theorem holderLaw_iff {q : Outbound} (h : q.responseClaim = 0) : holderLaw q ↔ heldLaw q ∧ blockedLaw q := by
  simp only [holderLaw, heldLaw, blockedLaw, h, Nat.add_zero, and_assoc]

theorem heldLaw.congr {q q' : Outbound} (h : heldLaw q) (hh : q'.holder = q.holder) : heldLaw q' := by
  simpa only [heldLaw, heldIntrusions, hh] using h

/-- A fuller queue has no more space for the holder. -/
theorem blockedLaw.mono {q q' : Outbound} (h : blockedLaw q) (hh : q'.holder = q.holder)
    (hle : occupancy q + q.responseClaim ≤ occupancy q' + q'.responseClaim) : blockedLaw q' := by
  intro r hr
  have blocked := h r (hh ▸ hr)
  omega

theorem intoHolder_held_law {q : Outbound} {r : Record} (h : heldLaw q) (w : waitsInHolder q r) :
    heldLaw (intoHolder r q) := by
  obtain ⟨few, kinds⟩ := h
  obtain ⟨waits, small, -, place⟩ := w
  refine ⟨?_, fun x hx => ?_⟩
  · simp only [heldIntrusions, intoHolder, List.countP_append, List.countP_singleton] at few place ⊢
    split
    · have := place ‹_›
      omega
    · exact few
  · rcases List.mem_append.1 hx with old | new
    · exact kinds x old
    · rw [List.mem_singleton.1 new]
      exact ⟨waits, small⟩

theorem intoHolder_blocked_law {q : Outbound} {r : Record} (h : blockedLaw q) (w : waitsInHolder q r) :
    blockedLaw (intoHolder r q) := by
  obtain ⟨-, -, full, -⟩ := w
  intro x hx
  by_cases empty : q.holder = []
  · have unfit := mt (fitsControl_iff q (recordSize r)).2 (by simp [full empty])
    simp only [intoHolder, empty, List.nil_append, List.head?_cons, Option.some.injEq] at hx
    rw [holderClaim, empty, totalSize_nil] at unfit
    subst hx
    change 65536 < occupancy q + q.responseClaim + recordSize r
    omega
  · refine h x ?_
    simpa [intoHolder, List.head?_append, List.head?_eq_none_iff, empty, Option.or_of_isSome] using hx

theorem Move.held_law {s t : State} (h : heldLaw s.queue) (m : Move s t) : heldLaw t.queue := by
  cases m with
  | quiet hq _ _ => rwa [hq]
  | waits r w => exact intoHolder_held_law h w
  | _ => exact h

theorem Moves.held_law {s t : State} (m : Moves s t) (h : heldLaw s.queue) : heldLaw t.queue :=
  m.keeps (P := fun s => heldLaw s.queue) (fun _ _ => Move.held_law) h

theorem Move.blocked_law {s t : State} (h : blockedLaw s.queue) (m : Move s t) : blockedLaw t.queue := by
  cases m with
  | quiet hq _ _ => rwa [hq]
  | waits r w => exact intoHolder_blocked_law h w
  | joinsControl r _ =>
    refine h.mono rfl (Nat.add_le_add_right ?_ _)
    rw [State.withQueue_queue, occupancy_joinControl]
    exact Nat.le_add_right _ _
  | joinsData r k _ =>
    refine h.mono rfl (Nat.add_le_add_right ?_ _)
    exact (Nat.le_add_right _ _).trans_eq (occupancy_joinData r s.queue).symm
  | _ => exact h

theorem Moves.blocked_law {s t : State} (m : Moves s t) (h : blockedLaw s.queue) : blockedLaw t.queue :=
  m.keeps (P := fun s => blockedLaw s.queue) (fun _ _ => Move.blocked_law) h

/-- Serving leaves the later records. -/
theorem serveHolder_held_law {q : Outbound} (h : heldLaw q) : heldLaw (serveHolder q) := by
  obtain ⟨few, kinds⟩ := h
  obtain ⟨n, e, -⟩ := serveHolder_spec q
  rw [e]
  exact ⟨((List.drop_sublist n q.holder).countP_le).trans few, fun r hr => kinds r (List.drop_subset n _ hr)⟩

/-- The first record that is left does not fit (R160). -/
theorem serveHolder_blocked_law (q : Outbound) : blockedLaw (serveHolder q) := by
  obtain ⟨n, e, -, blocked⟩ := serveHolder_spec q
  rw [e]
  intro r hr
  have := blocked r hr
  simp only [occupancy, totalSize_append] at this ⊢
  omega

/-! ### Both laws over a step -/

/-- The response claim never moves but at a taking (R147). -/
theorem Moves.responseClaim_eq {s t : State} (m : Moves s t) : t.queue.responseClaim = s.queue.responseClaim := by
  induction m with
  | refl => rfl
  | tail _ last ih =>
    rw [← ih]
    cases last with
    | quiet hq _ _ => rw [hq]
    | _ => rfl

/-- The laws of the transmitter and of the holder, as they stand between events. -/
def queueAtRest (q : Outbound) : Prop := transmitterLaw q ∧ holderLaw q ∧ q.responseClaim = 0

/-- An event that ends with its holder blocked is at rest after the arbiter's choice. -/
theorem endEvent_at_rest {s : State} (sent : sendingLaw s.queue) (held : heldLaw s.queue) (blocked : blockedLaw s.queue)
    (claim : s.queue.responseClaim = 0) : queueAtRest (endEvent s).queue :=
  ⟨arbitrate_transmitter_law sent,
    (holderLaw_iff (by simp [claim])).2
      ⟨held.congr (by simp), blocked.mono (by simp) (by simp)⟩,
    by simp [claim]⟩

theorem serveHolder_at_rest {s : State} (sent : sendingLaw s.queue) (held : heldLaw s.queue)
    (claim : s.queue.responseClaim = 0) : queueAtRest (arbitrate (serveHolder s.queue)) :=
   endEvent_at_rest (s := s.withQueue (serveHolder s.queue)) (serveHolder_sending_law sent) (serveHolder_held_law held)
    (serveHolder_blocked_law _) ((serveHolder_responseClaim _).trans claim)

theorem recordLeft_at_rest {k : QueueCounters} {s u : State} (m : Moves (recordLeft k s) u) (held : heldLaw s.queue)
    (claim : s.queue.responseClaim = 0) : queueAtRest (arbitrate (serveHolder u.queue)) := by
  refine serveHolder_at_rest (m.sending_law ?_) (m.held_law ?_) (m.responseClaim_eq.trans ?_)
  · exact sendingLaw_of_none (by simp [recordLeft])
  · exact held.congr (by simp [recordLeft])
  · simp [recordLeft, claim]

/-- An idle transmitter has nothing to drop. -/
theorem dropSent_of_sending_none {q : Outbound} (h : q.sending = none) : dropSent q = q := by
  simp [dropSent, h]

/-- A lawful transmitter sends a record exactly when it is not idle. -/
theorem sending_none_of_sendingRecord {q : Outbound} (h : sendingLaw q) (nothing : sendingRecord q = none) :
    q.sending = none := by
  unfold sendingRecord at nothing
  split at nothing
  · assumption
  · exact absurd (List.head?_eq_none_iff.1 nothing) (h.1 ‹_›).2
  · exact absurd (List.head?_eq_none_iff.1 nothing) (h.2 ‹_›).2

theorem resetQueue_sending_law {q : Outbound} (h : sendingLaw q) : sendingLaw (resetQueue q) := by
  refine serveHolder_sending_law ⟨h.1, fun data => ⟨(h.2 data).1, ?_⟩⟩
  change (if q.sending = some .data then q.data.take 1 else []) ≠ []
  rw [if_pos data]
  simpa using (h.2 data).2

theorem BodyEffect.sending_law {s t : State} (e : BodyEffect s t) (h : sendingLaw s.queue) : sendingLaw t.queue := by
  cases e with
  | moves m => exact m.sending_law h
  | resetRun => exact resetQueue_sending_law h
  | floor _ _ | acknowledgeHard | acknowledgeSoft => exact h

theorem BodyEffect.held_law {s t : State} (e : BodyEffect s t) (h : heldLaw s.queue) : heldLaw t.queue := by
  cases e with
  | moves m => exact m.held_law h
  | resetRun =>
    rw [resetRunEffect_queue, resetQueue]
    exact serveHolder_held_law (h.congr rfl)
  | floor _ _ | acknowledgeHard | acknowledgeSoft => exact h

/-- The answer joins the control list, and the holder is served without the claim (R169). -/
theorem taken_at_rest {k : Nat} {r : Request} {rest : List Request} {s : State} (sent : sendingLaw s.queue)
    (held : heldLaw s.queue) : queueAtRest (taken k r rest s).queue := by
  have body := requestBody_effect k r.payload (beginTaking rest s)
  let t := requestBody k r.payload (beginTaking rest s)
  let response : Record := .response (responseOf r s.run.timebase t.2 t.1)
  let joined := t.1.withQueue (joinControl response { t.1.queue with responseClaim := 0 })
  have sent' : sendingLaw joined.queue := (body.sending_law sent).mono rfl rfl (fun _ => by simp [joined, joinControl]) id
  exact serveHolder_at_rest (s := joined) sent' ((body.held_law held).congr rfl) rfl

/-- Settles O52: within an event the laws hold in a weaker form, and its end makes them whole. -/
theorem transmitterAndHolderKept : Obligations.TransmitterAndHolderKept := by
  intro s t transmitter holder claim hstep
  refine step_keeps (fun s => queueAtRest s.queue) (fun _ _ => id) (fun c s t atRest hexec => ?_)
    ⟨transmitter, holder, claim⟩ hstep
  obtain ⟨transmitter, holder, claim⟩ := atRest
  obtain ⟨sent, -⟩ := transmitterLaw_iff.1 transmitter
  obtain ⟨held, blocked⟩ := (holderLaw_iff claim).1 holder
  cases exec_effect hexec with
  | none => exact ⟨transmitter, holder, claim⟩
  | event m =>
    exact endEvent_at_rest (m.sending_law sent) (m.held_law held) (m.blocked_law blocked) (m.responseClaim_eq.trans claim)
  | power lines _ => simp [queueAtRest, transmitterLaw, holderLaw, heldIntrusions, powerOnWith, State.reset]
  | down =>
    rw [endEvent_queue, linkDown, startLinkLoss_queue]
    rcases abandon_cases (s.withQueue { s.queue with linkUp := false }) with ⟨nothing, e⟩ | ⟨k, u, m, e⟩ <;> rw [e]
    · have idle : s.queue.sending = none := sending_none_of_sendingRecord sent nothing
      rw [dropSent_of_sending_none (by exact idle)]
      exact endEvent_at_rest (s := s.withQueue { s.queue with linkUp := false }) (sendingLaw_of_none idle) held blocked claim
    · exact recordLeft_at_rest m held claim
  | up =>
    have up : sendingLaw { s.queue with linkUp := true } := ⟨fun e => ⟨rfl, (sent.1 e).2⟩, fun e => ⟨rfl, (sent.2 e).2⟩⟩
    exact endEvent_at_rest (s := linkUp s) up held blocked claim
  | complete =>
    rw [endEvent_queue]
    rcases completeTransmission_cases s with e | ⟨k, u, m, e⟩ <;> rw [e]
    · exact endEvent_at_rest sent held blocked claim
    · exact recordLeft_at_rest m held claim
  | taken k r rest _ => exact taken_at_rest sent held

end Sys2Proof.Machine

/-! What the Odometry Unit's events leave unchanged, and how an invariant of the Profile Assembler becomes one of every command:
the places where a context opens, is fed, closes, or where the run state moves, each named once. -/

namespace Sys2Proof.Machine

/-! ### The count of profiles closed -/

@[simp] theorem offerEvent_run_profilesClosed (e : EventRecord) (s : State) :
    (offerEvent e s).run.counters.profilesClosed = s.run.counters.profilesClosed := by
  unfold offerEvent; split <;> rfl

@[simp] theorem raiseSoft_run_profilesClosed (source : Source) (detail : EventDetail) (s : State) :
    (raiseSoft source detail s).run.counters.profilesClosed = s.run.counters.profilesClosed := by
  simp [raiseSoft]

@[simp] theorem raiseHard_run_profilesClosed (source : Source) (detail : EventDetail) (s : State) :
    (raiseHard source detail s).run.counters.profilesClosed = s.run.counters.profilesClosed := by
  simp [raiseHard]

@[simp] theorem offerIntrusion_run_profilesClosed (r : IntrusionRecord) (s : State) :
    (offerIntrusion r s).1.run.counters.profilesClosed = s.run.counters.profilesClosed := by
  unfold offerIntrusion loseIntrusion; split_ifs <;> simp

@[simp] theorem tryForms_run_profilesClosed (c : ProfileContent) (fs : List ProfileForm) (s : State) :
    (tryForms c fs s).run.counters.profilesClosed = s.run.counters.profilesClosed := by
  induction fs with
  | nil => simp [tryForms, dropProfile]
  | cons f rest ih =>
    unfold tryForms
    split
    · rfl
    · exact ih

@[simp] theorem offerPoints_run_profilesClosed (sl : PassedSlice) (points : List CorrectedPoint) (s : State) :
    (offerPoints sl points s).run.counters.profilesClosed = s.run.counters.profilesClosed := by
  simp only [offerPoints]; split_ifs <;> rfl

@[simp] theorem assess_run_profilesClosed (cp : ClosedProfile) (s : State) :
    (assess cp s).1.run.counters.profilesClosed = s.run.counters.profilesClosed := by
  simp only [assess, offerProfile, offerRuns]; split_ifs <;> simp

/-- A closure is counted (R115). -/
@[simp] theorem closeContext_run_profilesClosed (reason : Option CloseReason) (c : Context) (s : State) :
    (closeContext reason c s).1.run.counters.profilesClosed = inc32 s.run.counters.profilesClosed := by
  simp [closeContext]

/-! ### Events that the Odometry Unit reports -/

/-- Only the Odometry Unit, the Route Map, the queue's records, the capture slots and the run counters of other things than closures
may differ. -/
structure Reported (s t : State) : Prop where
  ports : t.ports = s.ports
  correctors : t.correctors = s.correctors
  assembler : t.assembler = s.assembler
  comparator : t.comparator = s.comparator
  mgmt : t.mgmt = s.mgmt
  runState : t.run.runState = s.run.runState
  params : t.run.params = s.run.params
  profilesClosed : t.run.counters.profilesClosed = s.run.counters.profilesClosed
  headLoss : t.faults.headLoss = s.faults.headLoss
  linkLoss : t.faults.linkLoss = s.faults.linkLoss
  linkUp : t.queue.linkUp = s.queue.linkUp

theorem Reported.refl (s : State) : Reported s s := ⟨rfl, rfl, rfl, rfl, rfl, rfl, rfl, rfl, rfl, rfl, rfl⟩

section
variable {s t : State}

/-- A change of the Odometry Unit, of the Route Map, or of the other run counters. -/
theorem Reported.to {u : State} (m : Reported s t) (h : Reported t u := by exact ⟨rfl, rfl, rfl, rfl, rfl, rfl, rfl, rfl, rfl, rfl, rfl⟩) :
    Reported s u :=
  ⟨h.ports.trans m.ports, h.correctors.trans m.correctors, h.assembler.trans m.assembler, h.comparator.trans m.comparator,
    h.mgmt.trans m.mgmt, h.runState.trans m.runState, h.params.trans m.params, h.profilesClosed.trans m.profilesClosed,
    h.headLoss.trans m.headLoss, h.linkLoss.trans m.linkLoss, h.linkUp.trans m.linkUp⟩

theorem withOdo_reported {o : Odometry} (m : Reported s t) : Reported s (t.withOdo o) := m.to

theorem offerEvent_reported {e : EventRecord} (m : Reported s t) : Reported s (offerEvent e t) :=
  m.to (by constructor <;> simp)

theorem raiseSoft_reported {source : Source} {detail : EventDetail} (m : Reported s t) :
    Reported s (raiseSoft source detail t) :=
  m.to (by constructor <;> simp)

theorem judgeLossA_reported (m : Reported s t) : Reported s (judgeLossA t) := by
  unfold judgeLossA
  dsimp only
  split
  · exact raiseSoft_reported (withOdo_reported m)
  · exact m

theorem judgeLossB_reported (m : Reported s t) : Reported s (judgeLossB t) := by
  unfold judgeLossB
  dsimp only
  split
  · exact raiseSoft_reported (withOdo_reported m)
  · exact m

theorem filterSlip_reported {dA dB : Int} (m : Reported s t) : Reported s (filterSlip dA dB t) := by
  unfold filterSlip
  dsimp only
  split
  · split
    · split
      · exact raiseSoft_reported (withOdo_reported m)
      · exact withOdo_reported m
    · split <;> exact withOdo_reported m
  · exact m

theorem checkReversal_reported (m : Reported s t) : Reported s (checkReversal t) := by
  unfold checkReversal
  dsimp only
  split_ifs
  · exact raiseSoft_reported (withOdo_reported m)
  · exact withOdo_reported m
  · exact m

theorem foldl_missMarker_reported {ms : List Marker} (m : Reported s t) : Reported s (ms.foldl missMarker t) := by
  induction ms generalizing t with
  | nil => exact m
  | cons k rest ih => exact ih (raiseSoft_reported m.to)

theorem integrate_reported {nA nB : Int} (m : Reported s t) : Reported s (integrate nA nB t) := by
  unfold integrate
  refine withOdo_reported (foldl_missMarker_reported (checkReversal_reported (withOdo_reported ?_)))
  exact filterSlip_reported (withOdo_reported (judgeLossB_reported (judgeLossA_reported (withOdo_reported m))))

theorem intervalExpires_reported (m : Reported s t) : Reported s (intervalExpires t) := by
  unfold intervalExpires
  dsimp only
  split
  · exact integrate_reported (withOdo_reported m)
  · exact integrate_reported (withOdo_reported m)
  all_goals exact m.to

theorem judgeRecalibration_reported {k : Marker} (m : Reported s t) : Reported s (judgeRecalibration k t) := by
  unfold judgeRecalibration recalibrate
  split
  · exact m
  · dsimp only
    split_ifs
    · exact raiseSoft_reported m
    · exact offerEvent_reported (withOdo_reported m)
    · exact raiseSoft_reported m
    · exact m

theorem detectMarker_reported (m : Reported s t) : Reported s (detectMarker t) := by
  unfold detectMarker searchMarkers
  dsimp only
  split_ifs
  · exact withOdo_reported m
  · exact withOdo_reported m
  · split
    · exact raiseSoft_reported m.to
    · split
      · unfold matchMarker
        exact withOdo_reported (judgeRecalibration_reported m.to)
      · exact raiseSoft_reported (withOdo_reported m)
      · exact raiseSoft_reported (withOdo_reported m)

end

/-! ### The record in transmission leaves -/

section
variable {s : State} {r : Record}

theorem abandon_of_idle (h : sendingRecord s.queue = none) : abandon s = s.withQueue (dropSent s.queue) := by
  unfold abandon; rw [h]

/-- R151, R160: the record abandoned leaves its list, a RUN_END may be offered again, and the holder is served. -/
theorem abandon_of_sending (h : sendingRecord s.queue = some r) :
    abandon s =
      (reofferRunEnd (some r) (recordLeft { s.queue.counters with txAbandoned := inc32 s.queue.counters.txAbandoned } s)).withQueue
        (serveHolder (reofferRunEnd (some r)
          (recordLeft { s.queue.counters with txAbandoned := inc32 s.queue.counters.txAbandoned } s)).queue) := by
  have counters : (dropSent s.queue).counters = s.queue.counters := by simp
  unfold abandon; rw [h]; simp only [counters]; rfl

theorem completeTransmission_of_idle (h : sendingRecord s.queue = none) : completeTransmission s = s := by
  unfold completeTransmission; rw [h]

/-- R150, R160: the record sent leaves its list, the run may end, and the holder is served. -/
theorem completeTransmission_of_sending (h : sendingRecord s.queue = some r) :
    completeTransmission s =
      (completeRunEnd r (recordLeft { s.queue.counters with transmitted := inc32 s.queue.counters.transmitted } s)).withQueue
        (serveHolder (completeRunEnd r
          (recordLeft { s.queue.counters with transmitted := inc32 s.queue.counters.transmitted } s)).queue) := by
  have counters : (dropSent s.queue).counters = s.queue.counters := by simp
  unfold completeTransmission; rw [h]; simp only [counters]; rfl

end

/-! ### Invariants of the Profile Assembler -/

/-- The open contexts, the closed line and the two counts of closures are the same. -/
structure SameSet (s t : State) : Prop where
  contexts : t.assembler.contexts = s.assembler.contexts
  closedLine : t.assembler.closedLine = s.assembler.closedLine
  sequence : t.assembler.sequence = s.assembler.sequence
  profilesClosed : t.run.counters.profilesClosed = s.run.counters.profilesClosed

theorem Reported.sameSet {s t : State} (h : Reported s t) : SameSet s t :=
  ⟨by rw [h.assembler], by rw [h.assembler], by rw [h.assembler], h.profilesClosed⟩

/-- What a property of the open contexts must bear to hold over every command: the closures, the opening and the feeding of a
context, the passing of time, and the moves of the run state. A run state other than RUNNING may move with the set as it is. -/
structure AssemblerInvariant (P : State → Prop) : Prop where
  same : ∀ {s t : State}, SameSet s t → t.run.runState = s.run.runState ∨ s.run.runState ≠ .running → P s → P t
  progress : ∀ {s : State}, P s → P (progressTest s).1
  timeOut : ∀ {s : State} (j : Nat), P s → P (timeOutClosures j s).1
  oldest : ∀ {s : State} {c : Context} {rest : List Context}, s.assembler.contexts = c :: rest → P s →
    P (closeContext (some .forced) c s).1
  opened : ∀ {s : State} {j : Nat}, s.run.runState = .running → s.assembler.closedLine ≤ j → contextFor j s = none →
    s.assembler.contexts.length < 8 → P s → P (openContext j s)
  fed : ∀ {s : State} (j : Nat) (sl : PassedSlice) (results : List SampleResult), P s → P (feedSlice j sl results s)
  ticked : ∀ {s : State}, P s → P (advanceTime s)
  halted : ∀ {s : State} (fault : EventKind), P s → P (haltRun fault s)
  drained : ∀ {s : State}, P s → P (drain s)
  armed : ∀ {s : State}, P s → P (prepareRun s)
  released : ∀ {s : State}, P s → P (resetRunEffect s)
  powered : ∀ (lines : PowerLines) (s : State), P (powerOnWith lines s)

namespace AssemblerInvariant
variable {P : State → Prop} {s : State}

/-- A change that the set and the run state do not see. -/
theorem quiet {t : State} (K : AssemblerInvariant P) (h : P s) (set : SameSet s t := by exact ⟨rfl, rfl, rfl, rfl⟩)
    (state : t.run.runState = s.run.runState := by rfl) : P t :=
  K.same set (.inl state) h

theorem ended (K : AssemblerInvariant P) (h : P s) : P (endEvent s) := K.quiet h

theorem reported {t : State} (K : AssemblerInvariant P) (h : P s) (m : Reported s t) : P t :=
  K.quiet h m.sameSet m.runState

theorem ported (K : AssemblerInvariant P) {p : HeadId} {port : Port} (h : P s) : P (s.withPort p port) := K.quiet h

theorem raised (K : AssemblerInvariant P) {source : Source} {detail : EventDetail} (h : P s) :
    P (raiseSoft source detail s) :=
  K.reported h (raiseSoft_reported (.refl s))

theorem pointed (K : AssemblerInvariant P) {sl : PassedSlice} {points : List CorrectedPoint} (h : P s) :
    P (offerPoints sl points s) :=
  K.quiet h (by constructor <;> simp) (by simp)

theorem decided (K : AssemblerInvariant P) {r : State × Bool} (h : P r.1) : P (decideHalt r) := by
  unfold decideHalt
  split
  · exact K.halted _ h
  · exact h

theorem hardFault (K : AssemblerInvariant P) {source : Source} {detail : EventDetail} (h : P s) :
    P (takeHardFault source detail s) := by
  have raised : P (raiseHard source detail s) := K.quiet h (by constructor <;> simp) (by simp)
  simp only [takeHardFault]
  split
  · exact K.halted _ raised
  · exact raised

theorem left (K : AssemblerInvariant P) (before : PortState) (h : P s) : P (leftFrom before s) := by
  have started : P (startHeadLoss s) := by
    unfold startHeadLoss
    split_ifs
    · exact h
    · exact h
    · exact K.quiet h
  unfold leftFrom afterLeaving
  split_ifs
  · exact K.decided (K.progress started)
  · exact h
  · exact h

theorem finished (K : AssemblerInvariant P) {turn : PointsTurn} {sl : PassedSlice} {points : List CorrectedPoint}
    {r : State × Bool} (h : P r.1) : P (finishSlice turn sl points r) := by
  cases turn with
  | beforeClosures => exact K.decided (r := (_, _)) (K.progress (K.pointed h))
  | beforeHaltDecision => exact K.decided (r := (_, _)) (K.pointed (K.progress h))
  | afterHaltDecision => exact K.pointed (K.decided (r := (_, _)) (K.progress h))

theorem placed (K : AssemblerInvariant P) {turn : PointsTurn} {j : Nat} {sl : PassedSlice} {r : State × Bool} (h : P r.1) :
    P (placeSlice turn j sl r) := by
  unfold placeSlice
  split
  · exact h
  · exact K.finished (r := (_, _)) (K.fed j sl _ h)

/-- The forced closure of the oldest context makes room for one more. -/
theorem length_contexts_closeContext_lt {c : Context} {rest : List Context} (h : s.assembler.contexts = c :: rest)
    (full : s.assembler.contexts.length ≤ 8) (reason : Option CloseReason) :
    (closeContext reason c s).1.assembler.contexts.length < 8 := by
  rw [closeContext_assembler, h]
  have shorter := List.length_filter_le (fun d => d.station != c.station) rest
  rw [h, List.length_cons] at full
  simp only [List.filter_cons, bne_self_eq_false, Bool.false_eq_true, if_false]
  omega

theorem arrived (K : AssemblerInvariant P) {turn : PointsTurn} {j : Nat} {sl : PassedSlice}
    (running : s.run.runState = .running) (full : s.assembler.contexts.length ≤ 8) (line : s.assembler.closedLine ≤ j)
    (h : P s) : P (arriveAt turn j sl s) := by
  unfold arriveAt
  split
  · exact K.placed (r := (_, _)) h
  · rename_i absent
    split
    · exact K.placed (r := (_, _)) (K.opened running line absent ‹_› h)
    · split
      · exact h
      · rename_i oldest rest e
        split
        · refine K.placed (r := (_, _)) (K.opened ?_ ?_ ?_ (length_contexts_closeContext_lt e full _) (K.oldest e h))
          · simpa using running
          · simp only [closeContext_assembler]
            omega
          · simp only [contextFor, closeContext_assembler, List.find?_eq_none] at absent ⊢
            exact fun d hd => absent d (List.mem_of_mem_filter hd)
        · exact K.quiet h

theorem passed (K : AssemblerInvariant P) (bounded : ∀ {u : State}, P u → u.assembler.contexts.length ≤ 8) {p : HeadId}
    {f : SliceFields} {payload : List Byte} (h : P s) : P (passOn p f payload s) := by
  unfold passOn
  split
  · unfold deliverSlice arriveSlice
    dsimp only
    split_ifs
    · exact K.quiet h
    · exact K.quiet h
    · exact K.quiet h
    · rename_i started ahead
      refine K.arrived ‹_› (show s.assembler.contexts.length ≤ 8 from bounded h) ?_ (K.quiet h)
      exact (Int.le_toNat (Int.not_lt.mp started)).mpr (Int.not_lt.mp ahead)
  · exact h

theorem sliced (K : AssemblerInvariant P) (bounded : ∀ {u : State}, P u → u.assembler.contexts.length ≤ 8) {p : HeadId}
    {payload : List Byte} (h : P s) : P (sliceArrives p payload s) := by
  have synchronised (f : SliceFields) : P (synchronise p f s) := by
    unfold synchronise afterEntering
    dsimp only
    split <;> exact K.quiet h
  have sequenced (f : SliceFields) : P (sequenceSlice p f s) := by
    unfold sequenceSlice sliceGap
    dsimp only
    split_ifs
    · exact K.ported h
    · exact K.ported (K.ported h)
    · exact K.ported (K.raised (K.ported h))
  have entered (f : SliceFields) :
      P (if f.start = 0 then passOn p f payload (synchronise p f s) else countUnsynced p s) := by
    split
    · exact K.passed bounded (synchronised f)
    · exact K.quiet h
  have taken (f : SliceFields) : P (takeSlice p f payload s) := by
    unfold takeSlice
    split
    · exact entered f
    · exact entered f
    · exact K.passed bounded (sequenced f)
    · exact K.quiet h
    · exact h
    · exact h
  unfold sliceArrives
  dsimp only
  split_ifs
  · exact h
  · exact K.quiet h
  · exact taken _
  · exact K.raised (K.ported h)

theorem statusArrived (K : AssemblerInvariant P) {p : HeadId} {payload : List Byte} (h : P s) :
    P (headStatusArrives p payload s) := by
  have fault (code : Nat) (temperature : Int) : P (statusFault p code temperature s) := by
    unfold statusFault
    dsimp only
    split
    · exact K.ported h
    · exact K.left _ (K.raised (K.ported h))
  have warn (code : Nat) (temperature : Int) : P (statusWarn p code temperature s) := by
    unfold statusWarn
    dsimp only
    split
    · exact K.ported h
    · exact K.raised (K.ported h)
  unfold headStatusArrives
  split_ifs
  · exact h
  · exact K.ported h
  · split
    · exact K.ported h
    · exact fault _ _
    · exact warn _ _
    · exact K.ported h

/-- A request whose effect the set does not see. -/
theorem installed (K : AssemblerInvariant P) (st : Staging) (h : P s) : P (installTarget st s) := by
  unfold installTarget
  split <;> exact K.quiet h

theorem body (K : AssemblerInvariant P) (k : Nat) (p : List Byte) (h : P s) : P (requestBody k p s).1 := by
  apply requestBody_state k p s P h
  case hTime => exact K.quiet h
  case hOpen =>
    rcases stageOpen_state p s with e | ⟨_, -, -, -, e⟩ <;> rw [e]
    exacts [h, K.quiet h]
  case hPart =>
    rcases stagePart_state p s with e | ⟨_, -, -, -, e⟩ <;> rw [e]
    exacts [h, K.quiet h]
  case hCommit =>
    rcases stageCommit_state p s with e | ⟨st, -, -, -, -, e⟩ <;> rw [e]
    exacts [h, K.quiet (K.installed st h)]
  case hDiscard =>
    rcases stageDiscard_state p s with e | e <;> rw [e]
    exacts [h, K.quiet h]
  case hHead =>
    rcases configureHead_state p s with e | ⟨_, -, -, -, -, e⟩ <;> rw [e]
    exacts [h, K.quiet h]
  case hMask =>
    rcases setMask_state p s with e | ⟨_, -, e⟩ <;> rw [e]
    exacts [h, K.quiet h]
  case hOdo =>
    rcases setOdometry_state p s with e | ⟨-, -, e⟩ <;> rw [e]
    exacts [h, K.quiet h]
  case hBase =>
    rcases setRouteBase_state p s with e | ⟨-, e⟩ <;> rw [e]
    exacts [h, K.quiet h]
  case hWrite =>
    rcases writeRouteEntry_state p s with e | ⟨_, -, -, -, -, -, -, e⟩ <;> rw [e]
    exacts [h, K.quiet h]
  case hClear =>
    rcases clearRouteEntry_state p s with e | ⟨-, -, e⟩ <;> rw [e]
    exacts [h, K.quiet h]
  case hErase =>
    rcases eraseEnvelope_state p s with e | ⟨-, -, -, e⟩ <;> rw [e]
    exacts [h, K.quiet h]
  case hMap =>
    rcases mapCells_state p s with e | ⟨-, -, -, e⟩ <;> rw [e]
    exacts [h, K.quiet h]
  case hUnmap =>
    rcases unmapCells_state p s with e | ⟨-, -, e⟩ <;> rw [e]
    exacts [h, K.quiet h]
  case hAdd =>
    rcases addMarker_state p s with e | ⟨-, -, -, e⟩ <;> rw [e]
    exacts [h, K.quiet h]
  case hRemove =>
    rcases removeMarker_state p s with e | ⟨-, e⟩ <;> rw [e]
    exacts [h, K.quiet h]
  case hParams =>
    rcases setRunParameters_state p s with e | ⟨-, -, -, -, e⟩ <;> rw [e]
    exacts [h, K.quiet h]
  case hArm =>
    rcases arm_state p s with e | ⟨-, -, e⟩ <;> rw [e]
    exacts [h, K.armed h]
  case hStart =>
    rcases start_state p s with e | ⟨armed, e⟩ <;> rw [e]
    · exact h
    · have started := K.same (s := s) (t := s.withRun { s.run with runState := .running, startTime := some s.run.timebase })
        ⟨rfl, rfl, rfl, rfl⟩ (.inr (by simp [armed])) h
      unfold startLinkLossIfDown startLinkLoss startHeadLoss
      split_ifs <;> exact K.quiet started
  case hStop =>
    rcases stop_state p s with e | ⟨-, e⟩ <;> rw [e]
    exacts [h, K.drained h]
  case hReset =>
    rcases resetRun_state p s with e | ⟨-, e⟩ <;> rw [e]
    exacts [h, K.released h]
  case hFloor =>
    rcases setLevelFloor_state p s with e | ⟨-, e⟩ <;> rw [e]
    exacts [h, K.quiet h]
  case hAck =>
    rcases ackFault_state p s with e | e | e <;> rw [e]
    exacts [h, K.quiet h, K.quiet h]

theorem taking (K : AssemblerInvariant P) (isKind : Nat → Bool) (k : Nat) (h : P s) :
    P (takeRequest isKind (requestBody k) s) := by
  rcases takeRequest_taken isKind k s with e | ⟨r, rest, -, e⟩ <;> rw [e]
  · exact h
  · have begun : P (beginTaking rest s) := K.quiet h
    exact K.quiet (K.body k r.payload begun)

theorem abandoned (K : AssemblerInvariant P) (h : P s) : P (abandon s) := by
  have reoffered (r : Option Record) {u : State} (hu : P u) : P (reofferRunEnd r u) := by
    unfold reofferRunEnd
    split
    · split_ifs
      · exact K.quiet hu (by constructor <;> simp) (by simp)
      · exact hu
    · exact hu
  cases e : sendingRecord s.queue with
  | none =>
    rw [abandon_of_idle e]
    exact K.quiet h
  | some r =>
    have left : P (recordLeft { s.queue.counters with txAbandoned := inc32 s.queue.counters.txAbandoned } s) := K.quiet h
    rw [abandon_of_sending e]
    exact K.quiet (reoffered (some r) left)

theorem completed (K : AssemblerInvariant P) (h : P s) : P (completeTransmission s) := by
  have ended (r : Record) {u : State} (hu : P u) : P (completeRunEnd r u) := by
    unfold completeRunEnd
    split
    · split
      · rename_i ends
        exact K.same (s := u) ⟨rfl, rfl, rfl, rfl⟩ (.inr (by simp [ends.1])) hu
      · exact hu
    · exact hu
  cases e : sendingRecord s.queue with
  | none =>
    rw [completeTransmission_of_idle e]
    exact h
  | some r =>
    have left : P (recordLeft { s.queue.counters with transmitted := inc32 s.queue.counters.transmitted } s) := K.quiet h
    rw [completeTransmission_of_sending e]
    exact K.quiet (ended r left)

/-- A property of the set that bears what may happen to it is kept by every command. -/
theorem exec_keeps (K : AssemblerInvariant P) (bounded : ∀ {u : State}, P u → u.assembler.contexts.length ≤ 8) {c : Instr}
    {t : State} (h : P s) (hexec : exec c s = .next t) : P t := by
  cases exec_course hexec with
  | taking k _ _ _ => exact K.taking _ k h
  | unknown _ => exact K.taking _ 0 h
  | powerOn lines _ => exact K.powered lines s
  | resetInput _ => exact K.powered _ s
  | headCarrierLoss p _ => exact K.ended (K.left _ (K.quiet h))
  | headCarrierGain p _ => exact K.quiet h
  | headFrameTooLong p _ =>
    unfold frameTooLong
    split <;> exact K.quiet h
  | headFrameDiscarded p kind payload crc _ =>
    unfold frameDiscarded
    split_ifs <;> exact K.quiet h
  | slice p payload _ => exact K.ended (K.sliced bounded h)
  | headStatus p payload _ => exact K.ended (K.statusArrived h)
  | silenceTimerExpiry p _ =>
    refine K.ended ?_
    unfold silenceExpires
    dsimp only
    split
    · exact K.left .streaming (K.raised (K.ported h))
    · exact h
  | encoderTransition w p1 p2 _ => exact K.quiet h
  | odometryIntervalExpiry _ =>
    split
    · exact K.ended (K.reported h (intervalExpires_reported (.refl s)))
    · exact h
  | markerDetection _ => exact K.ended (K.reported h (detectMarker_reported (.refl s)))
  | closeTimerExpiry j _ =>
    rcases closeTimerExpires_cases j s with e | e <;> rw [e]
    · exact h
    · exact K.ended (K.decided (K.timeOut j h))
  | alertHoldExpiry _ => split <;> exact K.quiet h
  | headLossTimerExpiry _ =>
    split
    · exact K.ended (K.hardFault (K.quiet h))
    · exact h
  | linkLossTimerExpiry _ =>
    split
    · exact K.ended (K.hardFault (K.quiet h))
    · exact h
  | trunkLinkDown _ =>
    refine K.ended ?_
    have lost : P (abandon (s.withQueue { s.queue with linkUp := false })) := K.abandoned (K.quiet h)
    unfold linkDown startLinkLoss
    split
    · exact K.quiet lost
    · exact lost
  | trunkLinkUp _ => exact K.quiet h
  | transmissionComplete _ => exact K.ended (K.completed h)
  | trunkFrameTooLong _ => exact K.quiet h (by constructor <;> simp) (by simp)
  | trunkFrameDiscarded kind payload crc _ => exact K.quiet h (by constructor <;> simp) (by simp)
  | request tag kind payload _ => exact K.quiet h (by constructor <;> simp) (by simp)
  | timebaseAdvance _ => exact K.ended (K.ticked h)

end AssemblerInvariant

end Sys2Proof.Machine

/-! The canonical tables read back what is written (log 19), and the laws of the Profile Assembler: of the set (R108), of the
accumulator (R109) and of closure (R116). -/

namespace Sys2Proof.Machine

/-! ### The canonical tables -/

section
variable {α : Type} {d x : α} {t : List (Nat × α)} {i j : Nat}

/-- An index below every listed one reads as the default. -/
theorem tableGet_of_forall_ne (h : ∀ e ∈ t, e.1 ≠ j) : tableGet d t j = d := by
  induction t with
  | nil => rfl
  | cons a rest ih =>
    rw [tableGet, if_neg (h a (List.mem_cons_self ..))]
    exact ih fun e he => h e (List.mem_cons_of_mem _ he)

variable [DecidableEq α]

theorem mem_or_eq_of_mem_tableSet {e : Nat × α} (h : e ∈ tableSet d t i x) : e ∈ t ∨ e = (i, x) ∧ x ≠ d := by
  induction t with
  | nil =>
    unfold tableSet at h
    split_ifs at h with hx
    · exact absurd h (List.not_mem_nil)
    · exact .inr ⟨List.mem_singleton.mp h, hx⟩
  | cons a rest ih =>
    unfold tableSet at h
    split_ifs at h with hlt hx heq hx
    · exact .inl h
    · rcases List.mem_cons.mp h with h | h
      exacts [.inr ⟨h, hx⟩, .inl h]
    · exact .inl (List.mem_cons_of_mem _ h)
    · rcases List.mem_cons.mp h with h | h
      exacts [.inr ⟨h, hx⟩, .inl (List.mem_cons_of_mem _ h)]
    · rcases List.mem_cons.mp h with h | h
      · exact .inl (h ▸ List.mem_cons_self ..)
      · exact (ih h).imp_left (List.mem_cons_of_mem _)

/-- A value other than the default reads back in any table, canonical or not. -/
theorem tableGet_tableSet_of_ne (hx : x ≠ d) : tableGet d (tableSet d t i x) j = if j = i then x else tableGet d t j := by
  induction t with
  | nil =>
    rw [tableSet, if_neg hx, tableGet]
    exact if_congr eq_comm rfl rfl
  | cons a rest ih =>
    unfold tableSet
    split_ifs <;> simp only [tableGet, ih] <;> grind

theorem tableWf_tail {a : Nat × α} (h : tableWf d (a :: t)) : tableWf d t :=
  ⟨(List.pairwise_cons.mp h.1).2, fun e he => h.2 e (List.mem_cons_of_mem _ he)⟩

/-- Writing keeps the canonical form. -/
theorem tableWf_tableSet (h : tableWf d t) : tableWf d (tableSet d t i x) := by
  induction t with
  | nil =>
    unfold tableSet
    split_ifs with hx
    · exact h
    · simpa [tableWf] using hx
  | cons a rest ih =>
    obtain ⟨above, -⟩ := List.pairwise_cons.mp h.1
    have rest_wf := tableWf_tail h
    unfold tableSet
    split_ifs with hlt hx heq hx
    · exact h
    · refine ⟨List.pairwise_cons.mpr ⟨fun e he => ?_, h.1⟩, List.forall_mem_cons.mpr ⟨hx, h.2⟩⟩
      rcases List.mem_cons.mp he with rfl | he
      exacts [hlt, hlt.trans (above e he)]
    · exact rest_wf
    · exact ⟨List.pairwise_cons.mpr ⟨fun e he => heq ▸ above e he, rest_wf.1⟩, List.forall_mem_cons.mpr ⟨hx, rest_wf.2⟩⟩
    · refine ⟨List.pairwise_cons.mpr ⟨fun e he => ?_, (ih rest_wf).1⟩,
        List.forall_mem_cons.mpr ⟨h.2 a (List.mem_cons_self ..), (ih rest_wf).2⟩⟩
      rcases mem_or_eq_of_mem_tableSet he with he | ⟨rfl, -⟩
      · exact above e he
      · show a.1 < i
        omega

/-- In a canonical table what is written reads back, the default too. -/
theorem tableGet_tableSet (h : tableWf d t) : tableGet d (tableSet d t i x) j = if j = i then x else tableGet d t j := by
  by_cases hx : x = d
  · induction t with
    | nil => simp [tableSet, tableGet, hx]
    | cons a rest ih =>
      obtain ⟨above, -⟩ := List.pairwise_cons.mp h.1
      have absent (k : Nat) (hk : k ≤ a.1) : tableGet d rest k = d :=
        tableGet_of_forall_ne fun e he => (hk.trans_lt (above e he)).ne'
      have := ih (tableWf_tail h)
      unfold tableSet
      grind [tableGet]
  · exact tableGet_tableSet_of_ne hx

end

/-- Settles O40: induction along the table, an index below the head of the list being absent from what follows. -/
theorem tablesReadBack : Obligations.TablesReadBack := by
  intro α _ d x t i j h
  exact ⟨tableWf_tableSet h, tableGet_tableSet h⟩

end Sys2Proof.Machine

/-! The laws of the Profile Assembler: of the set (R108), of the accumulator (R109) and of closure (R116). Contexts close from the
oldest on, so what is left of a set in station order is again one. -/

namespace Sys2Proof.Machine

/-! ### Closures of the set -/

/-- The contexts left are those of other stations. -/
theorem closeAll_contexts (l : List (Context × Option CloseReason)) (s : State) :
    (closeAll l s).1.assembler.contexts
      = s.assembler.contexts.filter fun d => l.all fun c => d.station != c.1.station := by
  induction l generalizing s with
  | nil => simp [closeAll]
  | cons c rest ih => simp [closeAll, ih, List.filter_filter, Bool.and_comm]

/-- Nothing is open after every context has closed. -/
@[simp] theorem closeEvery_contexts (reason : CloseReason) (s : State) : (closeEvery reason s).1.assembler.contexts = [] := by
  rw [closeEvery, closeAll_contexts, List.filter_eq_nil_iff]
  intro d hd
  simp only [List.all_map, List.all_eq_true, not_forall]
  exact ⟨d, hd, by simp⟩

@[simp] theorem haltRun_contexts (fault : EventKind) (s : State) : (haltRun fault s).assembler.contexts = [] := by
  simp [haltRun]

/-! ### The law of closure -/

theorem closureLaw_congr {s t : State} (set : SameSet s t) (h : closureLaw s) : closureLaw t := by
  unfold closureLaw at *
  rwa [set.sequence, set.profilesClosed]

/-- The sequence counter and the count of profiles closed rise together, until the count saturates. -/
theorem closeContext_closure_law {s : State} (reason : Option CloseReason) (c : Context) (h : closureLaw s) :
    closureLaw (closeContext reason c s).1 := by
  unfold closureLaw at *
  simp only [closeContext_run_profilesClosed, closeContext_assembler, inc32, satAdd, count32, wrap32]
  omega

theorem closeAll_closure_law {s : State} (l : List (Context × Option CloseReason)) (h : closureLaw s) :
    closureLaw (closeAll l s).1 := by
  induction l generalizing s with
  | nil => exact h
  | cons c rest ih => exact ih (closeContext_closure_law _ _ h)

/-! ### The law of the accumulator -/

/-- One sector keeps the law of the accumulator. -/
def lawfulSector (a : SectorAcc) : Prop := (a.count = 0 ↔ a.minRadius = none) ∧ (a.count = 0 ↔ a.heads = ⟨false, false, false⟩)

/-- A context whose sectors all keep it. -/
def lawfulContext (c : Context) : Prop := ∀ s, lawfulSector (sectorAt c s)

theorem accumulateSector_count_ne_zero (h : HeadId) (radius : Nat) (a : SectorAcc) :
    (accumulateSector h radius a).count ≠ 0 := by
  simp only [accumulateSector, satAdd]; omega

theorem accumulateSector_lawful (h : HeadId) (radius : Nat) (a : SectorAcc) : lawfulSector (accumulateSector h radius a) := by
  have counted := accumulateSector_count_ne_zero h radius a
  have measured : (accumulateSector h radius a).minRadius ≠ none := by
    unfold accumulateSector lesserRadius
    cases a.minRadius <;> simp
  have seen : (accumulateSector h radius a).heads ≠ ⟨false, false, false⟩ := by
    cases h <;> simp [accumulateSector, PerHead.set]
  exact ⟨by simp [counted, measured], by simp [counted, seen]⟩

@[simp] theorem accumulate_station (h : HeadId) (points : List CorrectedPoint) (c : Context) :
    (accumulate h points c).station = c.station := by
  induction points generalizing c with
  | nil => rfl
  | cons p rest ih => simp [accumulate, ih]

theorem accumulate_lawful {c : Context} (h : HeadId) (points : List CorrectedPoint) (law : lawfulContext c) :
    lawfulContext (accumulate h points c) := by
  induction points generalizing c with
  | nil => exact law
  | cons p rest ih =>
    refine ih fun k => ?_
    have differs : accumulateSector h p.radius (sectorAt c p.sector) ≠ ({} : SectorAcc) := fun e =>
      accumulateSector_count_ne_zero h p.radius (sectorAt c p.sector) (by rw [e])
    rw [sectorAt, tableGet_tableSet_of_ne differs]
    split
    · exact accumulateSector_lawful _ _ _
    · exact law k

theorem newContext_lawful (s : State) (j : Nat) : lawfulContext (newContext s j) := fun k => by
  simp [lawfulSector, sectorAt, newContext, tableGet]

/-! ### The set in station order -/

/-- What holds of the open contexts in every run state, a moment before the last of a drain have closed too. -/
structure Ordered (s : State) : Prop where
  sorted : s.assembler.contexts.Pairwise fun c d => c.station < d.station
  bounded : s.assembler.contexts.length ≤ 8
  ahead : ∀ c ∈ s.assembler.contexts, s.assembler.closedLine ≤ c.station
  lawful : ∀ c ∈ s.assembler.contexts, lawfulContext c
  closure : closureLaw s

/-- The laws of the Assembler: the order of the set, and its emptiness outside RUNNING. -/
structure AssemblerLaws (s : State) : Prop extends Ordered s where
  idle : s.run.runState ≠ .running → s.assembler.contexts = []

theorem assemblerLaws_iff (s : State) : AssemblerLaws s ↔ contextLaw s ∧ accumulatorLaw s.assembler ∧ closureLaw s :=
  ⟨fun h => ⟨⟨h.sorted, h.bounded, h.ahead, h.idle⟩, h.lawful, h.closure⟩,
    fun ⟨⟨sorted, bounded, ahead, idle⟩, lawful, closure⟩ => ⟨⟨sorted, bounded, ahead, lawful, closure⟩, idle⟩⟩

theorem Ordered.congr {s t : State} (h : Ordered s) (set : SameSet s t) : Ordered t := by
  obtain ⟨sorted, bounded, ahead, lawful, closure⟩ := h
  constructor
  · rwa [set.contexts]
  · rwa [set.contexts]
  · rwa [set.contexts, set.closedLine]
  · rwa [set.contexts]
  · exact closureLaw_congr set closure

/-- The set is empty. -/
theorem Ordered.of_nil {s : State} (e : s.assembler.contexts = []) (closure : closureLaw s) : Ordered s :=
  ⟨by simp [e], by simp [e], by simp [e], by simp [e], closure⟩

/-- The oldest context of a set in order leaves the others. -/
theorem filter_station_of_sorted {c : Context} {rest : List Context}
    (sorted : (c :: rest).Pairwise fun c d => c.station < d.station) :
    (c :: rest).filter (fun d => d.station != c.station) = rest := by
  obtain ⟨above, -⟩ := List.pairwise_cons.mp sorted
  rw [List.filter_cons_of_neg (by simp), List.filter_eq_self]
  exact fun d hd => by simpa using (above d hd).ne'

/-- The oldest context closes. -/
theorem Ordered.oldest {s : State} {c : Context} {rest : List Context} (h : Ordered s) (e : s.assembler.contexts = c :: rest)
    (reason : Option CloseReason) :
    Ordered (closeContext reason c s).1 ∧ (closeContext reason c s).1.assembler.contexts = rest := by
  obtain ⟨sorted, bounded, -, lawful, closure⟩ := h
  have left : (closeContext reason c s).1.assembler.contexts = rest := by
    rw [closeContext_assembler, e]
    exact filter_station_of_sorted (e ▸ sorted)
  rw [e] at sorted bounded lawful
  obtain ⟨above, rest_sorted⟩ := List.pairwise_cons.mp sorted
  refine ⟨⟨by rwa [left], ?_, ?_, ?_, closeContext_closure_law reason c closure⟩, left⟩
  · rw [left]
    rw [List.length_cons] at bounded
    omega
  · rw [left, closeContext_assembler]
    exact fun d hd => above d hd
  · rw [left]
    exact fun d hd => lawful d (List.mem_cons_of_mem _ hd)

/-- Contexts close from the oldest on, the others stay. -/
theorem Ordered.closeAll {s : State} {l : List (Context × Option CloseReason)} {rest : List Context} (h : Ordered s)
    (e : s.assembler.contexts = l.map Prod.fst ++ rest) :
    Ordered (closeAll l s).1 ∧ (closeAll l s).1.assembler.contexts = rest := by
  induction l generalizing s with
  | nil => exact ⟨h, e⟩
  | cons c l ih =>
    obtain ⟨ordered, left⟩ := h.oldest e c.2
    exact ih ordered left

/-- A property of the lower stations picks the first of a set in order. -/
theorem filter_append_filter_not_of_sorted {l : List Context} (p : Context → Bool)
    (sorted : l.Pairwise fun c d => c.station < d.station)
    (down : ∀ c d : Context, c.station < d.station → p d = true → p c = true) :
    l = l.filter p ++ l.filter fun c => !p c := by
  induction l with
  | nil => rfl
  | cons c rest ih =>
    obtain ⟨above, rest_sorted⟩ := List.pairwise_cons.mp sorted
    by_cases hc : p c = true
    · rw [List.filter_cons_of_pos hc, List.filter_cons_of_neg (by simp [hc]), List.cons_append, ← ih rest_sorted]
    · have none : rest.filter p = [] := List.filter_eq_nil_iff.mpr fun d hd hp => hc (down c d (above d hd) hp)
      rw [List.filter_cons_of_neg hc, none, List.nil_append, List.filter_cons_of_pos (by simp [hc]), List.cons.injEq]
      exact ⟨rfl, by simpa [none] using ih rest_sorted⟩

/-- The progress condition of a station is that of every lower one. -/
theorem progressHolds_of_le {s : State} {i j : Nat} (le : i ≤ j) (h : progressHolds s j = true) : progressHolds s i = true := by
  simp only [progressHolds, Bool.and_eq_true, List.all_eq_true, Bool.or_eq_true] at h ⊢
  refine ⟨h.1, fun p hp => (h.2 p hp).imp_right fun last => ?_⟩
  cases e : s.assembler.lastStation.get p with
  | none => simp [e] at last
  | some k =>
    simp only [e, decide_eq_true_eq] at last ⊢
    omega

/-- Closures of the lower stations, with the reason that each context has. -/
theorem Ordered.closeLower {s : State} (h : Ordered s) (p : Context → Bool) (reason : Context → Option CloseReason)
    (down : ∀ c d : Context, c.station < d.station → p d = true → p c = true) :
    Ordered (Machine.closeAll ((s.assembler.contexts.filter p).map fun c => (c, reason c)) s).1
      ∧ (Machine.closeAll ((s.assembler.contexts.filter p).map fun c => (c, reason c)) s).1.assembler.contexts
        = s.assembler.contexts.filter fun c => !p c := by
  apply h.closeAll
  rw [List.map_map, show (Prod.fst ∘ fun c : Context => (c, reason c)) = id from rfl, List.map_id]
  exact filter_append_filter_not_of_sorted p h.sorted down

theorem Ordered.progressTest {s : State} (h : Ordered s) :
    Ordered (progressTest s).1
      ∧ (Machine.progressTest s).1.assembler.contexts = s.assembler.contexts.filter fun c => !progressHolds s c.station :=
  h.closeLower _ _ fun _ _ lt hd => progressHolds_of_le lt.le hd

theorem Ordered.timeOut {s : State} (h : Ordered s) (j : Nat) :
    Ordered (timeOutClosures j s).1
      ∧ (timeOutClosures j s).1.assembler.contexts = s.assembler.contexts.filter fun c => !decide (c.station ≤ j) :=
  h.closeLower _ _ fun _ _ lt hd => by simpa using lt.le.trans (by simpa using hd)

theorem closeEvery_closure_law {s : State} (reason : CloseReason) (h : closureLaw s) : closureLaw (closeEvery reason s).1 :=
  closeAll_closure_law _ h

theorem offerRunEnd_sameSet (r : RunEndRecord) (s : State) : SameSet s (offerRunEnd r s) := by
  constructor <;> simp

theorem haltRun_closure_law {s : State} (fault : EventKind) (h : closureLaw s) : closureLaw (haltRun fault s) := by
  have offered := offerRunEnd_sameSet (buildRunEnd .halted (some fault) (closeEvery .aborted s).1) (closeEvery .aborted s).1
  exact closureLaw_congr ⟨offered.contexts, offered.closedLine, offered.sequence, offered.profilesClosed⟩
    (closeEvery_closure_law .aborted h)

/-- Everything closes: the set is empty. -/
theorem Ordered.haltRun {s : State} (h : Ordered s) (fault : EventKind) : Ordered (haltRun fault s) :=
  .of_nil (by simp) (haltRun_closure_law fault h.closure)

/-! ### Opening and feeding -/

theorem mem_insertContext {c d : Context} {l : List Context} : d ∈ insertContext c l ↔ d = c ∨ d ∈ l := by
  induction l with
  | nil => simp [insertContext]
  | cons a rest ih =>
    unfold insertContext
    split
    · simp
    · simp [ih, or_left_comm]

@[simp] theorem length_insertContext (c : Context) (l : List Context) : (insertContext c l).length = l.length + 1 := by
  induction l with
  | nil => rfl
  | cons a rest ih =>
    unfold insertContext
    split <;> simp [ih]

/-- A context of a new station takes its place. -/
theorem insertContext_sorted {c : Context} {l : List Context} (h : l.Pairwise fun c d => c.station < d.station)
    (new : ∀ d ∈ l, d.station ≠ c.station) : (insertContext c l).Pairwise fun c d => c.station < d.station := by
  induction l with
  | nil => simp [insertContext]
  | cons a rest ih =>
    obtain ⟨above, rest_sorted⟩ := List.pairwise_cons.mp h
    unfold insertContext
    split_ifs with lt
    · refine List.pairwise_cons.mpr ⟨fun d hd => ?_, h⟩
      rcases List.mem_cons.mp hd with rfl | hd
      exacts [lt, lt.trans (above d hd)]
    · refine List.pairwise_cons.mpr
        ⟨fun d hd => ?_, ih rest_sorted fun d hd => new d (List.mem_cons_of_mem _ hd)⟩
      rcases mem_insertContext.mp hd with rfl | hd
      · have := new a (List.mem_cons_self ..)
        omega
      · exact above d hd

theorem Ordered.openContext {s : State} {j : Nat} (h : Ordered s) (line : s.assembler.closedLine ≤ j)
    (absent : contextFor j s = none) (room : s.assembler.contexts.length < 8) : Ordered (openContext j s) := by
  obtain ⟨sorted, -, ahead, lawful, closure⟩ := h
  have new : ∀ d ∈ s.assembler.contexts, d.station ≠ (newContext s j).station := fun d hd => by
    simpa [newContext] using (List.find?_eq_none.mp absent) d hd
  refine ⟨insertContext_sorted sorted new, ?_, fun d hd => ?_, fun d hd => ?_, closure⟩
  · simpa [Machine.openContext] using room
  · rcases mem_insertContext.mp hd with rfl | hd
    exacts [line, ahead d hd]
  · rcases mem_insertContext.mp hd with rfl | hd
    exacts [newContext_lawful s j, lawful d hd]

/-- A change of the contexts that keeps their stations and their lawful sectors. -/
theorem Ordered.map {s t : State} (h : Ordered s) (f : Context → Context) (stations : ∀ c, (f c).station = c.station)
    (law : ∀ c, lawfulContext c → lawfulContext (f c)) (contexts : t.assembler.contexts = s.assembler.contexts.map f)
    (line : t.assembler.closedLine = s.assembler.closedLine) (sequence : t.assembler.sequence = s.assembler.sequence)
    (closed : t.run.counters.profilesClosed = s.run.counters.profilesClosed) : Ordered t := by
  obtain ⟨sorted, bounded, ahead, lawful, closure⟩ := h
  constructor
  · rw [contexts, List.pairwise_map]
    simpa only [stations] using sorted
  · rwa [contexts, List.length_map]
  · rw [contexts, line]
    intro d hd
    obtain ⟨c, hc, rfl⟩ := List.mem_map.mp hd
    exact stations c ▸ ahead c hc
  · rw [contexts]
    intro d hd
    obtain ⟨c, hc, rfl⟩ := List.mem_map.mp hd
    exact law c (lawful c hc)
  · unfold closureLaw at *
    rwa [sequence, closed]

theorem Ordered.feedSlice {s : State} (h : Ordered s) (j : Nat) (sl : PassedSlice) (results : List SampleResult) :
    Ordered (feedSlice j sl results s) := by
  refine h.map (fun c => if c.station = j then
    accumulate sl.head (acceptedPoints results) (feedContext s.run.params s.odo.mode sl c) else c) ?_ ?_ rfl rfl rfl rfl
  · intro c
    split
    · simp [feedContext]
    · rfl
  · intro c law
    split
    · exact accumulate_lawful _ _ law
    · exact law

theorem Ordered.advanceTime {s : State} (h : Ordered s) : Ordered (advanceTime s) :=
  h.map (fun c => { c with timer := tickTimer c.timer }) (fun _ => rfl) (fun _ law => law) rfl rfl rfl rfl

/-! ### The laws over every command -/

/-- Closures of the set leave part of it, in the same run state. -/
theorem AssemblerLaws.closed {s t : State} (h : AssemblerLaws s) (ordered : Ordered t)
    (subset : ∀ c ∈ t.assembler.contexts, c ∈ s.assembler.contexts) (state : t.run.runState = s.run.runState) :
    AssemblerLaws t :=
  ⟨ordered, fun idle => List.eq_nil_iff_forall_not_mem.mpr fun c hc => by
    have none := h.idle (state ▸ idle)
    have := subset c hc
    rw [none] at this
    exact List.not_mem_nil this⟩

theorem AssemblerLaws.emptied {t : State} (none : t.assembler.contexts = []) (closure : closureLaw t) : AssemblerLaws t :=
  ⟨.of_nil none closure, fun _ => none⟩

/-- The halt decision of R192 keeps what the state bears and a halt would keep. -/
theorem decideHalt_keeps {P : State → Prop} {r : State × Bool} (stays : P r.1) (halts : P (haltRun .intrusionLost r.1)) :
    P (decideHalt r) := by
  unfold decideHalt
  split
  exacts [halts, stays]

theorem offerRunEnd_closure_law {r : RunEndRecord} {s : State} (h : closureLaw s) : closureLaw (offerRunEnd r s) :=
  closureLaw_congr (offerRunEnd_sameSet r s) h

theorem drain_laws {s : State} (h : closureLaw s) : AssemblerLaws (drain s) := by
  have law : closureLaw
      (closeEvery .drained ((s.withRun { s.run with runState := .draining }).withFaults { s.faults with headLoss := none })).1 :=
    closeEvery_closure_law _ (closureLaw_congr ⟨rfl, rfl, rfl, rfl⟩ h)
  exact decideHalt_keeps (.emptied (by simp) (offerRunEnd_closure_law law))
    (.emptied (by simp) (haltRun_closure_law _ (offerRunEnd_closure_law law)))

theorem assemblerLaws_invariant : AssemblerInvariant AssemblerLaws where
  same := fun {s t} set state h => ⟨h.toOrdered.congr set, fun idle => by
    rw [set.contexts]
    rcases state with state | other
    exacts [h.idle (state ▸ idle), h.idle other]⟩
  progress := fun {s} h => by
    obtain ⟨ordered, left⟩ := h.toOrdered.progressTest
    exact h.closed ordered (fun c hc => List.mem_of_mem_filter (left ▸ hc)) (by simp)
  timeOut := fun {s} j h => by
    obtain ⟨ordered, left⟩ := h.toOrdered.timeOut j
    exact h.closed ordered (fun c hc => List.mem_of_mem_filter (left ▸ hc)) (by simp [timeOutClosures])
  oldest := fun {s c rest} e h => by
    obtain ⟨ordered, left⟩ := h.toOrdered.oldest e (some .forced)
    exact h.closed ordered (fun d hd => e ▸ List.mem_cons_of_mem _ (left ▸ hd)) (by simp)
  opened := fun running line absent room h =>
    ⟨h.toOrdered.openContext line absent room, fun idle => absurd running idle⟩
  fed := fun j sl results h => ⟨h.toOrdered.feedSlice j sl results, fun idle => by
    show List.map _ _ = []
    rw [h.idle idle, List.map_nil]⟩
  ticked := fun h => ⟨h.toOrdered.advanceTime, fun idle => by
    show List.map _ _ = []
    rw [h.idle idle, List.map_nil]⟩
  halted := fun fault h => .emptied (by simp) (haltRun_closure_law fault h.closure)
  drained := fun h => drain_laws h.closure
  armed := fun _ => .emptied rfl (by simp [closureLaw, prepareRun, armRun, armAssembler])
  released := fun h => .emptied rfl h.closure
  powered := fun _ _ => .emptied rfl (by simp [closureLaw, powerOnWith, State.reset])

/-- Settles O53: the laws stand whatever may befall the set (`AssemblerInvariant`). -/
theorem assemblerLawsKept : Obligations.AssemblerLawsKept := by
  intro s t set accumulator closure hstep
  have laws := (assemblerLaws_iff s).mpr ⟨set, accumulator, closure⟩
  refine (assemblerLaws_iff t).mp (step_keeps AssemblerLaws (fun s cs h => ?_) (fun c s t h => ?_) laws hstep)
  · exact assemblerLaws_invariant.quiet h
  · exact assemblerLaws_invariant.exec_keeps (fun h => h.bounded) h

end Sys2Proof.Machine

/-! How many bytes each item takes (R196), the size of every record's content (R144), and of what READ STATUS and READ TABLE
answer. -/

namespace Sys2Proof.Machine

/-! ### Items -/

@[simp] theorem length_encB (b : Bool) : (encB b).length = 1 := length_encU ..

@[simp] theorem length_encOpt (w : Nat) (x : Option Nat) : (encOpt w x).length = 1 + w := by
  cases x <;> simp [encOpt]

@[simp] theorem length_encMargin (m : Option Int) : (encMargin m).length = 2 := by
  cases m <;> simp [encMargin]

@[simp] theorem length_encDepth (d : Nat) : (encDepth d).length = 2 := length_encU ..

@[simp] theorem length_encMaxDepth (d : Option Nat) : (encMaxDepth d).length = 2 := length_encDepth _

@[simp] theorem length_encRadius (r : Option Nat) : (encRadius r).length = 2 := by
  cases r <;> simp [encRadius]

@[simp] theorem length_encEntry (e : Option Nat) : (encEntry e).length = 2 := length_encU ..

@[simp] theorem length_encId (e : Option Nat) : (encId e).length = 1 := length_encU ..

@[simp] theorem length_encStation (s : Option Nat) : (encStation s).length = 4 := length_encU ..

@[simp] theorem length_encNumber (x : Int) : (encNumber x).length = 4 := by
  unfold encNumber; split <;> simp

@[simp] theorem length_encKind (k : Option EventKind) : (encKind k).length = 2 := length_encOpt ..

/-- Items of one width, one after another. -/
theorem length_flatMap_of_forall {α β : Type} {f : α → List β} {l : List α} {n : Nat} (h : ∀ x ∈ l, (f x).length = n) :
    (l.flatMap f).length = n * l.length := by
  rw [List.length_flatMap, List.map_congr_left h, List.map_const', List.sum_replicate, smul_eq_mul, Nat.mul_comm]

@[simp] theorem length_encCounts (ns : List Nat) : (encCounts ns).length = 4 * ns.length :=
  length_flatMap_of_forall fun _ _ => length_encU ..

/-! ### Records -/

@[simp] theorem length_profileHeaderBytes (h : ProfileHeader) : (profileHeaderBytes h).length = 48 := by
  unfold profileHeaderBytes
  simp only [List.length_append, length_encU, length_encId, length_encEntry, length_encMargin, length_encMaxDepth]

theorem length_sectorEntryBytes (e : SectorEntry) : (sectorEntryBytes e).length = 4 := by simp [sectorEntryBytes]

theorem length_groupEntryBytes (g : GroupEntry) : (groupEntryBytes g).length = 4 := by simp [groupEntryBytes]

theorem length_pointBytes (p : PointEntry) : (pointBytes p).length = 7 := by simp [pointBytes]

theorem length_runBytes (r : IntrusionRun) : (runBytes r).length = 8 := by simp [runBytes]

theorem length_pointsBytes (r : PointsRecord) : (pointsBytes r).length = 24 + 7 * r.points.length := by
  simp [pointsBytes, length_flatMap_of_forall fun p (_ : p ∈ r.points) => length_pointBytes p]
  omega

theorem length_intrusionBytes (r : IntrusionRecord) : (intrusionBytes r).length = 24 + 8 * r.runs.length := by
  simp [intrusionBytes, length_flatMap_of_forall fun x (_ : x ∈ r.runs) => length_runBytes x]
  omega

/-- No detail is longer than the 22 bytes kept for it. -/
theorem length_eventDetailBytes_le (d : EventDetail) : (eventDetailBytes d).length ≤ 22 := by
  cases d <;> simp [eventDetailBytes]

theorem length_padTo {n : Nat} {bytes : List Byte} (h : bytes.length ≤ n) : (padTo n bytes).length = n := by
  simp [padTo]; omega

theorem length_eventBytes (e : EventRecord) : (eventBytes e).length = 32 := by
  simp [eventBytes, length_padTo (length_eventDetailBytes_le e.detail)]

theorem length_responseBytes (r : ResponseRecord) : (responseBytes r).length = 16 + r.payload.length := by
  simp [responseBytes]
  omega

theorem length_runEndBytes (r : RunEndRecord) : (runEndBytes r).length = 64 := by simp [runEndBytes]

/-- Settles O33: each layout's items add up. -/
theorem recordsHaveTheirSize : Obligations.RecordsHaveTheirSize := by
  intro r full compact
  cases r with
  | profile h body =>
    cases body with
    | full sectors =>
      simp [recordBytes, recordSize, bodyForm, formSize, profileBodyBytes, full h sectors rfl,
        length_flatMap_of_forall fun e (_ : e ∈ sectors) => length_sectorEntryBytes e]
    | compact groups =>
      simp [recordBytes, recordSize, bodyForm, formSize, profileBodyBytes, compact h groups rfl,
        length_flatMap_of_forall fun e (_ : e ∈ groups) => length_groupEntryBytes e]
    | summary => simp [recordBytes, recordSize, bodyForm, formSize, profileBodyBytes]
  | points r => exact length_pointsBytes r
  | intrusion r => exact length_intrusionBytes r
  | event e => exact length_eventBytes e
  | response r => exact length_responseBytes r
  | runEnd r => exact length_runEndBytes r

/-! ### What READ STATUS answers -/

@[simp] theorem length_slotAnswer (slot : Slot) : (slotAnswer slot).length = 4 := by simp [slotAnswer]

@[simp] theorem length_targetAnswer (t : StagingTarget) : (targetAnswer t).length = 2 := by simp [targetAnswer]

@[simp] theorem length_encOptChainage (x : Option Int) : (encOptChainage x).length = 5 := by
  cases x <;> simp [encOptChainage]

@[simp] theorem length_lastStatusBytes (x : Option LastStatus) : (lastStatusBytes x).length = 3 := by
  cases x <;> simp [lastStatusBytes]

@[simp] theorem length_portItems (p : Port) : (portItems p).length = 47 := by simp [portItems]

@[simp] theorem length_correctorItems (c : Corrector) : (correctorItems c).length = 37 := by simp [correctorItems]

@[simp] theorem length_wheelItems (w : WheelRecord) (scale : Nat) : (wheelItems w scale).length = 13 := by simp [wheelItems]

@[simp] theorem length_lastMatchedBytes (x : Option MarkerRef) : (lastMatchedBytes x).length = 7 := by
  cases x <;> simp [lastMatchedBytes]

@[simp] theorem length_contextItems (c : Context) : (contextItems c).length = 14 := by
  simp [contextItems, PerHead.toList]

@[simp] theorem length_lastAlertBytes (x : Option AlertClosure) : (lastAlertBytes x).length = 9 := by
  cases x <;> simp [lastAlertBytes]

@[simp] theorem length_faultRecordBytes (r : FaultRecord) : (faultRecordBytes r).length = 22 := by simp [faultRecordBytes]

@[simp] theorem length_slotRecordBytes (x : Option FaultRecord) : (slotRecordBytes x).length = 23 := by
  cases x <;> simp [slotRecordBytes]

@[simp] theorem length_slotItems (slot : Slot) : (slotItems slot).length = 25 := by simp [slotItems]

@[simp] theorem length_stagingBytes (x : Option Staging) : (stagingBytes x).length = 5 := by
  cases x <;> simp [stagingBytes]

@[simp] theorem length_lastTakenBytes (x : Option LastTaken) : (lastTakenBytes x).length = 4 := by
  cases x <;> simp [lastTakenBytes]

theorem length_encList {α : Type} {f : α → List Byte} {l : List α} {n : Nat} (h : ∀ x ∈ l, (f x).length = n) :
    (encList f l).length = 2 + n * l.length := by
  rw [encList, List.length_append, length_encU, length_flatMap_of_forall h]

theorem length_assemblySection_le {s : State} (bounded : s.assembler.contexts.length ≤ 8) :
    (assemblySection s).length ≤ 1024 := by
  simp [assemblySection, PerHead.toList, length_encList fun c (_ : c ∈ s.assembler.contexts) => length_contextItems c]
  omega

theorem length_managementSection_le {s : State} (bounded : s.mgmt.intake.length ≤ 4) :
    (managementSection s).length ≤ 1024 := by
  have pairs : (encList (fun r : Request => [r.tag, r.kind]) s.mgmt.intake).length = 2 + 2 * s.mgmt.intake.length :=
    length_encList fun _ _ => rfl
  simp [managementSection, pairs]
  omega

theorem length_sectionOf_le {code : Nat} {s : State} {items : List Byte} (contexts : s.assembler.contexts.length ≤ 8)
    (intake : s.mgmt.intake.length ≤ 4) (h : sectionOf code s = some items) : items.length ≤ 1024 := by
  unfold sectionOf at h
  split at h <;> simp only [Option.some.injEq, reduceCtorEq] at h <;> subst h
  case h_7 => exact length_assemblySection_le contexts
  case h_11 => exact length_managementSection_le intake
  case h_1 => simp [summarySection, slotSummary, encUp, PerHead.toList]
  case h_2 => simp [runSection, paramBytes, runCounterList]
  case h_3 => simp [headsSection, PerHead.toList]
  case h_4 => simp [correctorSection, PerHead.toList]
  case h_5 => simp [odometrySection]
  case h_6 => simp [routeSection]
  case h_8 => simp [clearanceSection, encUp]
  case h_9 => simp [queueSection, encUp, queueCounterList]
  case h_10 => simp [faultsSection]

end Sys2Proof.Machine

/-! What closures, offers and slices passed on may change, and what they may not: the run goes on as it was, or it halts. -/

namespace Sys2Proof.Machine

/-! ### Samples -/

theorem feedSlice_corrector (j : Nat) (sl : PassedSlice) (results : List SampleResult) (s : State) (h : HeadId) :
    ∃ rs : List SampleResult, (feedSlice j sl results s).correctors.get h = rs.foldl countSample (s.correctors.get h) := by
  by_cases e : h = sl.head
  · exact ⟨results, by simp [feedSlice, changeContext, State.withCorrector, e]⟩
  · exact ⟨[], by simp [feedSlice, changeContext, State.withCorrector, PerHead.get_set_ne _ _ _ _ e]⟩

/-! ### The alert line -/

/-- An alerting profile asserts the line and starts the hold timer, another leaves both (R140). -/
theorem comparatorAfter_alert_law {p : RunParams} {cp : ClosedProfile} {a : Assessment} {c : Comparator} (h : alertLaw c) :
    alertLaw (comparatorAfter p cp a c) := by
  unfold comparatorAfter
  dsimp only
  split
  · rfl
  · exact h

theorem assess_alert_law {cp : ClosedProfile} {s : State} (h : alertLaw s.comparator) :
    alertLaw (assess cp s).1.comparator := by
  have taken := comparatorAfter_alert_law (p := s.run.params) (cp := cp) (a := assessment s.run.params s.route cp) h
  simp only [assess]
  split <;> simpa using taken

theorem closeContext_alert_law {reason : Option CloseReason} {c : Context} {s : State} (h : alertLaw s.comparator) :
    alertLaw (closeContext reason c s).1.comparator :=
  assess_alert_law h

/-! ### A settled state -/

/-- The run state, the Odometry Unit and the loss timers are the same. -/
structure GoesOn (s t : State) : Prop where
  runState : t.run.runState = s.run.runState
  odo : t.odo = s.odo
  headLoss : t.faults.headLoss = s.faults.headLoss
  linkLoss : t.faults.linkLoss = s.faults.linkLoss

/-- The run has halted: its end is handed over and the loss timers are stopped (R191). -/
structure Halts (s t : State) : Prop where
  survey : inSurvey s.run.runState = true
  runState : t.run.runState = .halted
  odo : t.odo = handOver s.odo
  headLoss : t.faults.headLoss = none
  linkLoss : t.faults.linkLoss = none

/-- The blocks that closures, offers and slices passed on leave alone, the samples counted besides. -/
structure Undisturbed (s t : State) : Prop where
  ports : t.ports = s.ports
  samples : ∀ h, ∃ rs : List SampleResult, t.correctors.get h = rs.foldl countSample (s.correctors.get h)
  route : t.route = s.route
  mgmt : t.mgmt = s.mgmt
  params : t.run.params = s.run.params
  linkUp : t.queue.linkUp = s.queue.linkUp
  alert : alertLaw s.comparator → alertLaw t.comparator

/-- What a chain of closures, offers and slices passed on makes of a state. -/
structure Settled (s t : State) : Prop extends Undisturbed s t where
  run : GoesOn s t ∨ Halts s t

theorem GoesOn.refl (s : State) : GoesOn s s := ⟨rfl, rfl, rfl, rfl⟩

theorem GoesOn.trans {s t u : State} (m : GoesOn s t) (h : GoesOn t u) : GoesOn s u :=
  ⟨h.runState.trans m.runState, h.odo.trans m.odo, h.headLoss.trans m.headLoss, h.linkLoss.trans m.linkLoss⟩

theorem Undisturbed.refl (s : State) : Undisturbed s s := ⟨rfl, fun _ => ⟨[], rfl⟩, rfl, rfl, rfl, rfl, id⟩

theorem Undisturbed.trans {s t u : State} (m : Undisturbed s t) (h : Undisturbed t u) : Undisturbed s u where
  ports := h.ports.trans m.ports
  samples := fun p => by
    obtain ⟨rs, e⟩ := m.samples p
    obtain ⟨qs, e'⟩ := h.samples p
    exact ⟨rs ++ qs, by rw [e', e, List.foldl_append]⟩
  route := h.route.trans m.route
  mgmt := h.mgmt.trans m.mgmt
  params := h.params.trans m.params
  linkUp := h.linkUp.trans m.linkUp
  alert := h.alert ∘ m.alert

/-- With the Corrector and the Comparator as they were. -/
theorem Undisturbed.of_same {s t : State} (ports : t.ports = s.ports := by simp) (correctors : t.correctors = s.correctors := by simp)
    (route : t.route = s.route := by simp) (mgmt : t.mgmt = s.mgmt := by simp) (params : t.run.params = s.run.params := by simp)
    (linkUp : t.queue.linkUp = s.queue.linkUp := by simp) (comparator : t.comparator = s.comparator := by simp) :
    Undisturbed s t :=
  ⟨ports, fun _ => ⟨[], by rw [correctors]; rfl⟩, route, mgmt, params, linkUp, by rw [comparator]; exact id⟩

theorem Settled.refl (s : State) : Settled s s := ⟨.refl s, .inl (.refl s)⟩

section
variable {s t u : State}

/-- A change after which the run goes on. -/
theorem Settled.goesOn (m : Settled s t) (h : Undisturbed t u) (on : GoesOn t u) : Settled s u := by
  refine ⟨m.toUndisturbed.trans h, ?_⟩
  rcases m.run with before | ⟨survey, state, odo, headLoss, linkLoss⟩
  · exact .inl (before.trans on)
  · exact .inr ⟨survey, on.runState.trans state, on.odo.trans odo, on.headLoss.trans headLoss, on.linkLoss.trans linkLoss⟩

theorem Settled.halts (m : Settled s t) (h : Undisturbed t u) (ends : Halts t u) : Settled s u := by
  refine ⟨m.toUndisturbed.trans h, .inr ?_⟩
  rcases m.run with ⟨state, odo, -, -⟩ | ⟨-, state, -, -, -⟩
  · exact ⟨state ▸ ends.survey, ends.runState, odo ▸ ends.odo, ends.headLoss, ends.linkLoss⟩
  · exact absurd ends.survey (by rw [state]; decide)

theorem Settled.trans (m : Settled s t) (h : Settled t u) : Settled s u := by
  rcases h.run with on | ends
  exacts [m.goesOn h.toUndisturbed on, m.halts h.toUndisturbed ends]

/-- A change that touches none of what is settled. -/
theorem Settled.same (m : Settled s t) (h : Undisturbed t u := by exact .of_same rfl rfl rfl rfl rfl rfl rfl)
    (on : GoesOn t u := by exact ⟨rfl, rfl, rfl, rfl⟩) : Settled s u :=
  m.goesOn h on

/-! ### Offers, closures and the halt -/

theorem raiseSoft_settled {source : Source} {detail : EventDetail} (m : Settled s t) : Settled s (raiseSoft source detail t) :=
  m.same .of_same (by constructor <;> simp)

theorem raiseHard_settled {source : Source} {detail : EventDetail} (m : Settled s t) : Settled s (raiseHard source detail t) :=
  m.same .of_same (by constructor <;> simp)

theorem offerEvent_settled {e : EventRecord} (m : Settled s t) : Settled s (offerEvent e t) :=
  m.same .of_same (by constructor <;> simp)

theorem offerPoints_settled {sl : PassedSlice} {points : List CorrectedPoint} (m : Settled s t) :
    Settled s (offerPoints sl points t) :=
  m.same .of_same (by constructor <;> simp)

theorem offerRunEnd_settled {e : RunEndRecord} (m : Settled s t) : Settled s (offerRunEnd e t) :=
  m.same .of_same (by constructor <;> simp)

theorem closeContext_undisturbed (reason : Option CloseReason) (c : Context) (s : State) :
    Undisturbed s (closeContext reason c s).1 :=
  ⟨by simp, fun _ => ⟨[], by simp⟩, by simp, by simp, by simp, by simp, closeContext_alert_law⟩

theorem closeContext_settled {reason : Option CloseReason} {c : Context} (m : Settled s t) :
    Settled s (closeContext reason c t).1 :=
  m.same (closeContext_undisturbed reason c t) (by constructor <;> simp)

theorem closeAll_settled {l : List (Context × Option CloseReason)} (m : Settled s t) : Settled s (closeAll l t).1 := by
  induction l generalizing t with
  | nil => exact m
  | cons c rest ih => exact ih (closeContext_settled m)

theorem haltRun_settled {fault : EventKind} (m : Settled s t) (survey : inSurvey t.run.runState = true) :
    Settled s (haltRun fault t) := by
  have closed := (closeAll_settled (l := t.assembler.contexts.map fun c => (c, some .aborted)) (.refl t)).toUndisturbed
  refine m.halts ⟨by simp, fun h => ⟨[], by simp⟩, by simp, by simp, by simp, by simp, fun h => ?_⟩
    ⟨survey, by simp, by simp, by simp, by simp⟩
  simpa [haltRun, closeEvery] using closed.alert h

theorem decideHalt_settled {r : State × Bool} (m : Settled s r.1) : Settled s (decideHalt r) := by
  unfold decideHalt
  split
  · rename_i ends
    exact haltRun_settled m (Bool.and_eq_true_iff.mp ends).2
  · exact m

theorem takeHardFault_settled {source : Source} {detail : EventDetail} (m : Settled s t) :
    Settled s (takeHardFault source detail t) := by
  simp only [takeHardFault]
  split
  · exact haltRun_settled (raiseHard_settled m) ‹_›
  · exact raiseHard_settled m

/-! ### Slices passed on -/

theorem finishSlice_settled {turn : PointsTurn} {sl : PassedSlice} {points : List CorrectedPoint} {r : State × Bool}
    (m : Settled s r.1) : Settled s (finishSlice turn sl points r) := by
  cases turn with
  | beforeClosures => exact decideHalt_settled (r := (_, _)) (closeAll_settled (offerPoints_settled m))
  | beforeHaltDecision => exact decideHalt_settled (r := (_, _)) (offerPoints_settled (closeAll_settled m))
  | afterHaltDecision => exact offerPoints_settled (decideHalt_settled (r := (_, _)) (closeAll_settled m))

theorem feedSlice_settled {j : Nat} {sl : PassedSlice} {results : List SampleResult} (m : Settled s t) :
    Settled s (feedSlice j sl results t) :=
  m.same ⟨rfl, feedSlice_corrector j sl results t, rfl, rfl, rfl, rfl, id⟩

theorem placeSlice_settled {turn : PointsTurn} {j : Nat} {sl : PassedSlice} {r : State × Bool} (m : Settled s r.1) :
    Settled s (placeSlice turn j sl r) := by
  unfold placeSlice
  split
  · exact m
  · exact finishSlice_settled (r := (_, _)) (feedSlice_settled m)

theorem arriveAt_settled {turn : PointsTurn} {j : Nat} {sl : PassedSlice} (m : Settled s t) :
    Settled s (arriveAt turn j sl t) := by
  unfold arriveAt
  split
  · exact placeSlice_settled (r := (_, _)) m
  · split
    · exact placeSlice_settled (r := (openContext j t, false)) m.same
    · split
      · exact m
      · rename_i oldest _ _
        split
        · have forced := closeContext_settled (reason := some .forced) (c := oldest) m
          exact placeSlice_settled (r := (openContext j _, _)) forced.same
        · exact m.same

theorem deliverSlice_settled {sl : PassedSlice} (m : Settled s t) : Settled s (deliverSlice sl t) := by
  unfold deliverSlice arriveSlice
  dsimp only
  split_ifs
  · exact m.same
  · exact m.same
  · exact m.same
  · exact arriveAt_settled m.same

theorem progressTest_settled (m : Settled s t) : Settled s (progressTest t).1 := closeAll_settled m

theorem endEvent_settled (m : Settled s t) : Settled s (endEvent t) :=
  m.same (.of_same (linkUp := by simp)) (by constructor <;> simp)

end

end Sys2Proof.Machine

/-! What no command but a taking and power touches: the settings, the tables and the staging record. The wheel scales move within
their range (R75), the markers in their run status only (R74, R76), and the intake grows up to 4 (R166). -/

namespace Sys2Proof.Machine

/-- Two Route Maps that differ at most in the run status of their markers. -/
structure SameMap (rm rm' : RouteMap) : Prop where
  base : rm'.base = rm.base
  cells : rm'.cells = rm.cells
  entries : rm'.entries = rm.entries
  envelopes : rm'.envelopes = rm.envelopes
  places : rm'.markers.map (fun m => (m.position, m.label)) = rm.markers.map fun m => (m.position, m.label)

theorem SameMap.refl (rm : RouteMap) : SameMap rm rm := ⟨rfl, rfl, rfl, rfl, rfl⟩

theorem SameMap.trans {a b c : RouteMap} (m : SameMap a b) (h : SameMap b c) : SameMap a c :=
  ⟨h.base.trans m.base, h.cells.trans m.cells, h.entries.trans m.entries, h.envelopes.trans m.envelopes,
    h.places.trans m.places⟩

theorem setMarkerStatus_places (position : Int) (status : MarkerStatus) (ms : List Marker) :
    (setMarkerStatus position status ms).map (fun m => (m.position, m.label)) = ms.map fun m => (m.position, m.label) := by
  rw [setMarkerStatus, List.map_map]
  refine List.map_congr_left fun m _ => ?_
  simp only [Function.comp_apply]
  split <;> rfl

theorem setMarkerStatus_sameMap (position : Int) (status : MarkerStatus) (rm : RouteMap) :
    SameMap rm { rm with markers := setMarkerStatus position status rm.markers } :=
  ⟨rfl, rfl, rfl, rfl, setMarkerStatus_places position status rm.markers⟩

/-- Settings that differ at most in the wheel scales, which stay in their range. -/
def Rescaled (x y : OdoSettings) : Prop :=
  ∃ a b, y = { x with scaleA := a, scaleB := b } ∧ (scaleInRange x.scaleA → scaleInRange a)
    ∧ (scaleInRange x.scaleB → scaleInRange b)

theorem Rescaled.refl (x : OdoSettings) : Rescaled x x := ⟨x.scaleA, x.scaleB, rfl, id, id⟩

theorem Rescaled.trans {x y z : OdoSettings} (m : Rescaled x y) (h : Rescaled y z) : Rescaled x z := by
  obtain ⟨a, b, rfl, ha, hb⟩ := m
  obtain ⟨c, d, rfl, hc, hd⟩ := h
  exact ⟨c, d, rfl, hc ∘ ha, hd ∘ hb⟩

theorem frozenPort_refl (p : Port) : frozenPort p p := ⟨rfl, rfl, rfl, rfl, rfl, rfl⟩

theorem frozenPort_trans {p q r : Port} (m : frozenPort p q) (h : frozenPort q r) : frozenPort p r := by
  obtain ⟨a, b, c, d, e, f⟩ := m
  obtain ⟨a', b', c', d', e', f'⟩ := h
  exact ⟨a'.trans a, b'.trans b, c'.trans c, d'.trans d, e'.trans e, f'.trans f⟩

/-- What the requests configure, and the intake, after a command that is no taking and no power. -/
structure Configured (s t : State) : Prop where
  calibration : ∀ h, (t.correctors.get h).calibration = (s.correctors.get h).calibration
  mask : ∀ h, (t.correctors.get h).mask = (s.correctors.get h).mask
  ports : ∀ p, frozenPort (s.ports.get p) (t.ports.get p)
  params : t.run.params = s.run.params
  route : SameMap s.route t.route
  settings : Rescaled s.odo.settings t.odo.settings
  staging : t.mgmt.staging = s.mgmt.staging
  intake : intakeLaw s.mgmt → intakeLaw t.mgmt

namespace Configured

theorem refl (s : State) : Configured s s :=
  ⟨fun _ => rfl, fun _ => rfl, fun _ => frozenPort_refl _, rfl, .refl _, .refl _, rfl, id⟩

variable {s t u : State}

theorem trans (m : Configured s t) (h : Configured t u) : Configured s u :=
  ⟨fun p => (h.calibration p).trans (m.calibration p), fun p => (h.mask p).trans (m.mask p),
    fun p => frozenPort_trans (m.ports p) (h.ports p), h.params.trans m.params, m.route.trans h.route,
    m.settings.trans h.settings, h.staging.trans m.staging, h.intake ∘ m.intake⟩

/-- A change of no configured item. -/
theorem same (m : Configured s t) (correctors : u.correctors = t.correctors := by rfl) (ports : u.ports = t.ports := by rfl)
    (params : u.run.params = t.run.params := by rfl) (route : u.route = t.route := by rfl)
    (settings : u.odo.settings = t.odo.settings := by rfl) (mgmt : u.mgmt = t.mgmt := by rfl) : Configured s u :=
  m.trans ⟨fun _ => by rw [correctors], fun _ => by rw [correctors], fun _ => ports ▸ frozenPort_refl _, params,
    route ▸ .refl _, settings ▸ .refl _, by rw [mgmt], by rw [mgmt]; exact id⟩

/-- A change of one port's record that keeps what is configured of it. -/
theorem withPort {p : HeadId} {port : Port} (m : Configured s t)
    (h : frozenPort (t.ports.get p) port := by exact ⟨rfl, rfl, rfl, rfl, rfl, rfl⟩) : Configured s (t.withPort p port) := by
  refine m.trans ⟨fun _ => rfl, fun _ => rfl, fun q => ?_, rfl, .refl _, .refl _, rfl, id⟩
  by_cases e : q = p
  · subst e
    simpa using h
  · simpa [PerHead.get_set_ne _ _ _ _ e] using frozenPort_refl _

end Configured

/-! ### Events -/

section
variable {s t u : State}

theorem foldl_countSample_calibration (rs : List SampleResult) (c : Corrector) :
    (rs.foldl countSample c).calibration = c.calibration ∧ (rs.foldl countSample c).mask = c.mask := by
  induction rs generalizing c with
  | nil => exact ⟨rfl, rfl⟩
  | cons r rest ih =>
    obtain ⟨calibration, mask⟩ := ih (countSample c r)
    rw [List.foldl_cons, calibration, mask]
    cases r with
    | accepted p => exact ⟨rfl, rfl⟩
    | discarded d => cases d <;> exact ⟨rfl, rfl⟩

theorem Settled.configured (h : Settled t u) (m : Configured s t) : Configured s u := by
  refine m.trans ⟨fun p => ?_, fun p => ?_, fun _ => h.ports ▸ frozenPort_refl _, h.params, h.route ▸ .refl _, ?_,
    by rw [h.mgmt], by rw [h.mgmt]; exact id⟩
  · obtain ⟨rs, e⟩ := h.samples p
    rw [e]
    exact (foldl_countSample_calibration rs _).1
  · obtain ⟨rs, e⟩ := h.samples p
    rw [e]
    exact (foldl_countSample_calibration rs _).2
  · rcases h.run with on | ends
    · exact on.odo ▸ .refl _
    · rw [ends.odo]
      exact .refl _

theorem raiseSoft_configured {source : Source} {detail : EventDetail} (m : Configured s t) :
    Configured s (raiseSoft source detail t) :=
  (raiseSoft_settled (.refl t)).configured m

theorem leftFrom_configured {before : PortState} (m : Configured s t) : Configured s (leftFrom before t) := by
  have started : Configured s (startHeadLoss t) := by
    unfold startHeadLoss
    split_ifs
    exacts [m, m, m.same]
  unfold leftFrom afterLeaving
  split_ifs
  · exact (decideHalt_settled (progressTest_settled (.refl _))).configured started
  · exact m
  · exact m

theorem frameTooLong_configured {p : HeadId} (m : Configured s t) : Configured s (frameTooLong p t) := by
  unfold frameTooLong
  split_ifs
  exacts [m.withPort, m]

theorem frameDiscarded_configured {p : HeadId} {kind : Byte} {payload : List Byte} {crc : BitVec 16} (m : Configured s t) :
    Configured s (frameDiscarded p kind payload crc t) := by
  unfold frameDiscarded
  split_ifs
  exacts [m, m.withPort, m.withPort, m.withPort, m]

theorem passOn_configured {p : HeadId} {f : SliceFields} {payload : List Byte} (m : Configured s t) :
    Configured s (passOn p f payload t) := by
  unfold passOn
  split
  · exact (deliverSlice_settled (.refl _)).configured m.withPort
  · exact m

theorem synchronise_configured {p : HeadId} {f : SliceFields} (m : Configured s t) : Configured s (synchronise p f t) := by
  have entered {v : State} (h : Configured s v) : Configured s (afterEntering v) := by
    unfold afterEntering
    split
    exacts [h.same, h]
  exact entered m.withPort

theorem sliceRevolution_frozenPort (f : SliceFields) (port : Port) : frozenPort port (sliceExpect f (sliceRevolution f port)) := by
  unfold sliceRevolution
  split <;> exact ⟨rfl, rfl, rfl, rfl, rfl, rfl⟩

theorem sequenceSlice_configured {p : HeadId} {f : SliceFields} (m : Configured s t) : Configured s (sequenceSlice p f t) := by
  have gap : Configured s (sliceGap p f t) := by
    unfold sliceGap
    dsimp only
    split_ifs
    exacts [m, m.withPort, raiseSoft_configured m.withPort]
  exact gap.withPort (sliceRevolution_frozenPort f _)

theorem takeSlice_configured {p : HeadId} {f : SliceFields} {payload : List Byte} (m : Configured s t) :
    Configured s (takeSlice p f payload t) := by
  have entered : Configured s (if f.start = 0 then passOn p f payload (synchronise p f t) else countUnsynced p t) := by
    split
    · exact passOn_configured (synchronise_configured m)
    · exact m.withPort
  unfold takeSlice
  split
  · exact entered
  · exact entered
  · exact passOn_configured (sequenceSlice_configured m)
  · exact m.withPort
  · exact m
  · exact m

theorem sliceArrives_configured {p : HeadId} {payload : List Byte} (m : Configured s t) :
    Configured s (sliceArrives p payload t) := by
  unfold sliceArrives
  dsimp only
  split_ifs
  · exact m
  · exact m.withPort
  · exact takeSlice_configured m
  · exact raiseSoft_configured m.withPort

theorem silenceExpires_configured {p : HeadId} (m : Configured s t) : Configured s (silenceExpires p t) := by
  unfold silenceExpires
  dsimp only
  split
  · exact leftFrom_configured (before := .streaming) (raiseSoft_configured m.withPort)
  · exact m

theorem clearedFault_frozenPort (port : Port) : frozenPort port (clearedFault port) := by
  unfold clearedFault
  split <;> exact ⟨rfl, rfl, rfl, rfl, rfl, rfl⟩

theorem statusFault_configured {p : HeadId} {code : Nat} {temperature : Int} (m : Configured s t) :
    Configured s (statusFault p code temperature t) := by
  unfold statusFault
  dsimp only
  split
  · exact m.withPort
  · exact leftFrom_configured (raiseSoft_configured m.withPort)

theorem statusWarn_configured {p : HeadId} {code : Nat} {temperature : Int} (m : Configured s t) :
    Configured s (statusWarn p code temperature t) := by
  unfold statusWarn
  dsimp only
  split
  · exact m.withPort (clearedFault_frozenPort _)
  · exact raiseSoft_configured (m.withPort (clearedFault_frozenPort _))

theorem headStatusArrives_configured {p : HeadId} {payload : List Byte} (m : Configured s t) :
    Configured s (headStatusArrives p payload t) := by
  unfold headStatusArrives
  split_ifs
  · exact m
  · exact m.withPort
  · split
    · exact m.withPort
    · exact statusFault_configured m
    · exact statusWarn_configured m
    · exact m.withPort (clearedFault_frozenPort _)

/-! ### Odometry -/

theorem judgeLossA_configured (m : Configured s t) : Configured s (judgeLossA t) := by
  unfold judgeLossA
  dsimp only
  split
  exacts [raiseSoft_configured m.same, m]

theorem judgeLossB_configured (m : Configured s t) : Configured s (judgeLossB t) := by
  unfold judgeLossB
  dsimp only
  split
  exacts [raiseSoft_configured m.same, m]

theorem restoreWheels_settings (nA nB dA dB : Int) (o : Odometry) : (restoreWheels nA nB dA dB o).settings = o.settings := by
  unfold restoreWheels
  split_ifs <;> rfl

theorem filterSlip_configured {dA dB : Int} (m : Configured s t) : Configured s (filterSlip dA dB t) := by
  unfold filterSlip
  dsimp only
  split
  · split
    · split
      exacts [raiseSoft_configured m.same, m.same]
    · split <;> exact m.same
  · exact m

theorem checkReversal_configured (m : Configured s t) : Configured s (checkReversal t) := by
  unfold checkReversal
  dsimp only
  split_ifs
  exacts [raiseSoft_configured m.same, m.same, m]

theorem missMarker_configured {k : Marker} (m : Configured s t) : Configured s (missMarker t k) :=
  raiseSoft_configured (m.trans ⟨fun _ => rfl, fun _ => rfl, fun _ => frozenPort_refl _, rfl,
    setMarkerStatus_sameMap k.position .missed t.route, .refl _, rfl, id⟩)

theorem scanMissed_configured {h0 : Int} (m : Configured s t) : Configured s (scanMissed h0 t) := by
  unfold scanMissed
  generalize crossedMarkers t h0 = ms
  induction ms generalizing t with
  | nil => exact m
  | cons k rest ih => exact ih (missMarker_configured m)

theorem integrate_configured {nA nB : Int} (m : Configured s t) : Configured s (integrate nA nB t) := by
  have travelled (dA dB : Int) : Configured s (t.withOdo (travelWheels nA nB dA dB t.odo)) := m.same
  have restored (dA dB : Int) {v : State} (h : Configured s v) : Configured s (v.withOdo (restoreWheels nA nB dA dB v.odo)) :=
    h.same (settings := restoreWheels_settings ..)
  have moved (dA dB : Int) {v : State} (h : Configured s v) : Configured s (v.withOdo
      (moveChainage v.run.params.direction (stepOf dA dB v.odo) { v.odo with mode := modeOf v.odo })) := h.same
  have triggered {v : State} (h : Configured s v) : Configured s (v.withOdo (triggerCamera v.run.params v.odo)) := h.same
  exact triggered (scanMissed_configured (checkReversal_configured (moved _ _ (filterSlip_configured (restored _ _
    (judgeLossB_configured (judgeLossA_configured (travelled _ _))))))))

theorem intervalExpires_configured (m : Configured s t) : Configured s (intervalExpires t) := by
  have taken : Configured s (t.withOdo (takeCounts t.odo)) := m.same
  unfold intervalExpires
  dsimp only
  split
  · exact integrate_configured taken
  · exact integrate_configured taken
  all_goals exact m.same

/-- A recalibration leaves each scale in its range: it was checked, or it is as before (R75). -/
theorem recalibrate_configured {label delta : Nat} (m : Configured s t) : Configured s (recalibrate label delta t) := by
  unfold recalibrate
  dsimp only
  split_ifs with unmoved good
  · exact raiseSoft_configured m
  · have inRange {scale candidate : Nat} (h : candidateGood scale candidate = true) : scaleInRange candidate := by
      simp only [candidateGood, Bool.and_eq_true, decide_eq_true_eq] at h
      exact .inr ⟨h.1.2, h.2⟩
    obtain ⟨goodA, goodB⟩ := Bool.and_eq_true_iff.mp good
    exact (offerEvent_settled (.refl _)).configured (m.trans ⟨fun _ => rfl, fun _ => rfl, fun _ => frozenPort_refl _, rfl,
      .refl _, ⟨_, _, rfl, fun _ => inRange goodA, fun _ => inRange goodB⟩, rfl, id⟩)
  · exact raiseSoft_configured m

theorem matchMarker_configured {k : Marker} (m : Configured s t) : Configured s (matchMarker k t) := by
  have matched (o : Odometry) (kept : o.settings = t.odo.settings) (x : RunCounters) : Configured s (((t.withOdo o).withRoute
      { t.route with markers := setMarkerStatus k.position .matched t.route.markers }).withCounters x) :=
    m.trans ⟨fun _ => rfl, fun _ => rfl, fun _ => frozenPort_refl _, rfl, setMarkerStatus_sameMap k.position .matched t.route,
      show Rescaled t.odo.settings o.settings from kept ▸ .refl _, rfl, id⟩
  have judged {v : State} (h : Configured s v) : Configured s (judgeRecalibration k v) := by
    unfold judgeRecalibration
    split
    · exact h
    · dsimp only
      split
      exacts [recalibrate_configured h, h]
  have ended {v : State} (h : Configured s v) (x : Option MarkerRef) :
      Configured s (v.withOdo { v.odo with lastMatched := x, u := 0 }) := h.same
  refine ended (judged (matched _ ?_ _)) _
  rfl

theorem detectMarker_configured (m : Configured s t) : Configured s (detectMarker t) := by
  unfold detectMarker searchMarkers
  dsimp only
  split_ifs
  · exact m.same
  · exact m.same
  · split
    · exact raiseSoft_configured m.same
    · split
      · exact matchMarker_configured m.same
      · exact raiseSoft_configured m.same
      · exact raiseSoft_configured m.same

/-! ### The trunk link -/

theorem abandon_configured (m : Configured s t) : Configured s (abandon t) := by
  cases e : sendingRecord t.queue with
  | none => rw [abandon_of_idle e]; exact m.same
  | some r =>
    have reoffered : Configured s (reofferRunEnd (some r)
        (recordLeft { t.queue.counters with txAbandoned := inc32 t.queue.counters.txAbandoned } t)) := by
      have left : Configured s (recordLeft { t.queue.counters with txAbandoned := inc32 t.queue.counters.txAbandoned } t) := m.same
      unfold reofferRunEnd
      split
      · split
        exacts [(offerRunEnd_settled (.refl _)).configured left, left]
      · exact left
    rw [abandon_of_sending e]
    exact reoffered.same

theorem completeTransmission_configured (m : Configured s t) : Configured s (completeTransmission t) := by
  cases e : sendingRecord t.queue with
  | none => rw [completeTransmission_of_idle e]; exact m
  | some r =>
    have ended : Configured s (completeRunEnd r
        (recordLeft { t.queue.counters with transmitted := inc32 t.queue.counters.transmitted } t)) := by
      have left : Configured s (recordLeft { t.queue.counters with transmitted := inc32 t.queue.counters.transmitted } t) := m.same
      unfold completeRunEnd
      split
      · split
        exacts [left.same, left]
      · exact left
    rw [completeTransmission_of_sending e]
    exact ended.same

theorem linkDown_configured (m : Configured s t) : Configured s (linkDown t) := by
  have lost : Configured s (abandon (t.withQueue { t.queue with linkUp := false })) := abandon_configured m.same
  unfold linkDown startLinkLoss
  split
  exacts [lost.same, lost]

/-- What the inbound side brings that is no staging and keeps the intake within its bound. -/
theorem receiveInbound_configured {f : Management → Management} (m : Configured s t) (staging : ∀ x, (f x).staging = x.staging)
    (intake : ∀ x, intakeLaw x → intakeLaw (f x)) : Configured s (receiveInbound f t) := by
  unfold receiveInbound
  split
  · exact m.trans ⟨fun _ => rfl, fun _ => rfl, fun _ => frozenPort_refl _, rfl, .refl _, .refl _, staging _, intake _⟩
  · exact m

theorem trunkFrameDiscarded_mgmt (kind : Byte) (payload : List Byte) (crc : BitVec 32) (x : Management) :
    (trunkFrameDiscarded kind payload crc x).staging = x.staging ∧ (trunkFrameDiscarded kind payload crc x).intake = x.intake := by
  unfold trunkFrameDiscarded
  split_ifs <;> exact ⟨rfl, rfl⟩

theorem requestArrives_staging (tag kind : Byte) (payload : List Byte) (x : Management) :
    (requestArrives tag kind payload x).staging = x.staging := by
  unfold requestArrives enterIntake
  split_ifs <;> rfl

theorem requestArrives_intake_law (tag kind : Byte) (payload : List Byte) {x : Management} (h : intakeLaw x) :
    intakeLaw (requestArrives tag kind payload x) := by
  unfold requestArrives enterIntake
  split_ifs with _ room
  · exact h
  · simp only [countFrame, intakeCapacity] at room
    simp only [intakeLaw, countFrame, List.length_append, List.length_singleton]
    omega
  · exact h

theorem endEvent_configured (m : Configured s t) : Configured s (endEvent t) := (endEvent_settled (.refl t)).configured m

theorem ite_configured {due : Bool} (m : Configured s t) : Configured s (if due then endEvent t else s) := by
  split
  exacts [endEvent_configured m, .refl s]

end

/-- Every command as the configuration sees it: no taking and no power, power, or a taking. -/
inductive Act (c : Instr) (s : State) : State → Prop where
  | configured {t : State} : Configured s t → Act c s t
  | power (lines : PowerLines) : (∃ l, c = .powerOn l) ∨ c = .resetInput → Act c s (powerOnWith lines s)
  | taken (k : Nat) (r : Request) (rest : List Request) : Ready s r rest → Act c s (taken k r rest s)

theorem takeRequest_act {c : Instr} (isKind : Nat → Bool) (k : Nat) (s : State) :
    Act c s (takeRequest isKind (requestBody k) s) := by
  rcases takeRequest_taken isKind k s with e | ⟨r, rest, ready, e⟩ <;> rw [e]
  · exact .configured (.refl s)
  · exact .taken k r rest ready

theorem exec_act {c : Instr} {s t : State} (h : exec c s = .next t) : Act c s t := by
  have m := Configured.refl s
  cases exec_course h with
  | taking k _ _ _ => exact takeRequest_act _ k s
  | unknown _ => exact takeRequest_act _ 0 s
  | powerOn lines e => exact .power lines (.inl ⟨lines, e⟩)
  | resetInput e => exact .power _ (.inr e)
  | headCarrierLoss p _ => exact .configured (endEvent_configured (leftFrom_configured m.withPort))
  | headCarrierGain p _ =>
    refine .configured (endEvent_configured (m.withPort ?_))
    unfold portCarrierGain
    split <;> exact ⟨rfl, rfl, rfl, rfl, rfl, rfl⟩
  | headFrameTooLong p _ => exact .configured (endEvent_configured (frameTooLong_configured m))
  | headFrameDiscarded p kind payload crc _ => exact .configured (endEvent_configured (frameDiscarded_configured m))
  | slice p payload _ => exact .configured (endEvent_configured (sliceArrives_configured m))
  | headStatus p payload _ => exact .configured (endEvent_configured (headStatusArrives_configured m))
  | silenceTimerExpiry p _ => exact .configured (endEvent_configured (silenceExpires_configured m))
  | encoderTransition w p1 p2 _ =>
    exact .configured (endEvent_configured (m.same (settings := by cases w <;> rfl)))
  | odometryIntervalExpiry _ => exact .configured (ite_configured (intervalExpires_configured m))
  | markerDetection _ => exact .configured (endEvent_configured (detectMarker_configured m))
  | closeTimerExpiry j _ =>
    rcases closeTimerExpires_cases j s with e | e <;> rw [e]
    · exact .configured m
    · exact .configured (endEvent_configured ((decideHalt_settled (closeAll_settled (.refl s))).configured m))
  | alertHoldExpiry _ => exact .configured (ite_configured m.same)
  | headLossTimerExpiry _ =>
    exact .configured (ite_configured ((takeHardFault_settled (.refl _)).configured m.same))
  | linkLossTimerExpiry _ =>
    exact .configured (ite_configured ((takeHardFault_settled (.refl _)).configured m.same))
  | trunkLinkDown _ => exact .configured (endEvent_configured (linkDown_configured m))
  | trunkLinkUp _ => exact .configured (endEvent_configured m.same)
  | transmissionComplete _ => exact .configured (endEvent_configured (completeTransmission_configured m))
  | trunkFrameTooLong _ => exact .configured (endEvent_configured (receiveInbound_configured m (fun _ => rfl) fun _ => id))
  | trunkFrameDiscarded kind payload crc _ =>
    refine .configured (endEvent_configured (receiveInbound_configured m (fun x => ?_) fun x hx => ?_))
    · exact (trunkFrameDiscarded_mgmt kind payload crc x).1
    · rwa [intakeLaw, (trunkFrameDiscarded_mgmt kind payload crc x).2]
  | request tag kind payload _ =>
    exact .configured (endEvent_configured (receiveInbound_configured m (requestArrives_staging tag kind payload)
      fun _ => requestArrives_intake_law tag kind payload))
  | timebaseAdvance _ =>
    refine .configured (endEvent_configured (m.trans ⟨fun _ => rfl, fun _ => rfl, fun p => ?_, rfl, .refl _, .refl _, rfl, id⟩))
    show frozenPort (s.ports.get p) ((s.ports.map _).get p)
    rw [PerHead.get_map]
    exact ⟨rfl, rfl, rfl, rfl, rfl, rfl⟩

end Sys2Proof.Machine

/-! The law of capacity (R146): what every request can do, that no answer is longer than the claim made for it (R147), and that a
record joins only where it fits. -/

namespace Sys2Proof.Machine

/-! ### What a request carries out -/

/-- What the body of a request leaves: the state as it was, or the one effect of its rule with what the rule checked. -/
inductive Carried (p : List Byte) (s : State) : State → Prop where
  | nothing : Carried p s s
  | time : Carried p s (s.withRun { s.run with timebase := fieldU 0 4 p })
  | stageOpened (t : StagingTarget) : targetOf (fieldU 0 1 p) (fieldU 1 1 p) = .inl t → s.mgmt.staging = none →
      frozen s.run.runState = false → Carried p s (s.withMgmt { s.mgmt with staging := some { target := t } })
  | partFilled (st : Staging) : s.mgmt.staging = some st → fieldU 0 1 p < partCount st.target →
      p.length = partLength st.target (fieldU 0 1 p) →
      Carried p s (s.withMgmt { s.mgmt with staging := some { st with
        parts := insertPart (fieldU 0 1 p) (partContent st.target (fieldU 0 1 p) p) st.parts } })
  | committed (st : Staging) : s.mgmt.staging = some st → missingPart st = none → badValueOf st.parts = none →
      frozen s.run.runState = false →
      Carried p s ((installTarget st s).withMgmt { (installTarget st s).mgmt with staging := none })
  | stageDiscarded : Carried p s (s.withMgmt { s.mgmt with staging := none })
  | headConfigured (h : HeadId) : frozen s.run.runState = false → badHeadField p = none →
      ¬(fieldU 1 1 p = 0 ∧ fieldU 2 1 p = 1) → headOf (fieldU 0 1 p) = some h →
      Carried p s (s.withPort h (configurePort p (s.ports.get h)))
  | masked (h : HeadId) : frozen s.run.runState = false →
      Carried p s (s.withCorrector h { s.correctors.get h with mask := BitVec.ofNat 64 (fieldU 1 8 p) })
  | odometrySet : frozen s.run.runState = false → badOdometryField p = none →
      Carried p s (s.withOdo { s.odo with settings := carriedSettings p, interval := startMs (carriedSettings p).interval })
  | based : s.run.runState = .unarmed → Carried p s (s.withRoute (rebase (fieldI 0 4 p) s.route))
  | entryWritten (e : RouteEntry) : badEntryField p = none → (entryAt s.route (fieldU 0 2 p)).references = 0 →
      (envelopeAt s.route (fieldU 2 1 p)).defined = true → e.defined = true → e.envelope = fieldU 2 1 p → e.references = 0 →
      Carried p s (s.withRoute { s.route with entries := tableSet {} s.route.entries (fieldU 0 2 p) e })
  | entryCleared : fieldU 0 2 p ≤ 511 → (entryAt s.route (fieldU 0 2 p)).references = 0 →
      Carried p s (s.withRoute { s.route with entries := tableSet {} s.route.entries (fieldU 0 2 p) {} })
  | envelopeErased : frozen s.run.runState = false → fieldU 0 1 p ≤ 63 → namingEntry s.route (fieldU 0 1 p) = none →
      Carried p s (s.withRoute { s.route with envelopes := tableSet {} s.route.envelopes (fieldU 0 1 p) {} })
  | mapped : spanGood (fieldU 0 2 p) (fieldU 2 1 p) = true → lateCell s (fieldU 0 2 p) (fieldU 2 1 p) = none →
      (∀ e ∈ carriedIndices p, e ≤ 511 ∧ (entryAt s.route e).defined = true) →
      Carried p s (s.withRoute (mapSpan (fieldU 0 2 p) (carriedIndices p) s.route))
  | unmapped : spanGood (fieldU 0 2 p) (fieldU 2 1 p) = true → lateCell s (fieldU 0 2 p) (fieldU 2 1 p) = none →
      Carried p s (s.withRoute (unmapSpan (fieldU 0 2 p) (fieldU 2 1 p) s.route))
  | markerAdded : lateMarker s (fieldI 0 4 p) = none → s.route.markers.length < 256 →
      conflictingMarker (fieldI 0 4 p) s.route.markers = none →
      Carried p s (s.withRoute { s.route with
        markers := insertMarker ⟨fieldI 0 4 p, fieldU 4 4 p, .unseen⟩ s.route.markers })
  | markerRemoved : lateMarker s (fieldI 0 4 p) = none →
      Carried p s (s.withRoute { s.route with markers := s.route.markers.filter fun n => n.position != fieldI 0 4 p })
  | paramsSet : s.run.runState = .unarmed → badParamField p = none →
      (carriedParams p).bogieCentres ≤ (carriedParams p).vehicleLength → watermarksOrdered (carriedParams p) = true →
      Carried p s (s.withRun { s.run with params := carriedParams p, paramsSet := true })
  | armed : s.run.runState = .unarmed → armCheck s = none → Carried p s (prepareRun s)
  | started : s.run.runState = .armed → Carried p s
      (startLinkLossIfDown (startHeadLoss (s.withRun { s.run with runState := .running, startTime := some s.run.timebase })))
  | stopped : s.run.runState = .running → Carried p s (drain s)
  | runReset : s.run.runState ≠ .unarmed → Carried p s (resetRunEffect s)
  | floorSet : fieldU 0 1 p ≤ 5 →
      Carried p s (s.withQueue { s.queue with floor := fieldU 0 1 p, level := max s.queue.level (fieldU 0 1 p) })
  | hardAcknowledged : Carried p s (s.withFaults { s.faults with hard := acknowledge s.faults.hard })
  | softAcknowledged : Carried p s (s.withFaults { s.faults with soft := acknowledge s.faults.soft })

theorem requestBody_carried (k : Nat) (p : List Byte) (s : State) : Carried p s (requestBody k p s).1 := by
  apply requestBody_state k p s (Carried p s) .nothing
  case hTime => exact .time
  case hOpen =>
    rcases stageOpen_state p s with e | ⟨t, target, closed, thawed, e⟩ <;> rw [e]
    exacts [.nothing, .stageOpened t target closed thawed]
  case hPart =>
    rcases stagePart_state p s with e | ⟨st, staged, below, size, e⟩ <;> rw [e]
    exacts [.nothing, .partFilled st staged below size]
  case hCommit =>
    rcases stageCommit_state p s with e | ⟨st, staged, complete, good, thawed, e⟩ <;> rw [e]
    exacts [.nothing, .committed st staged complete good thawed]
  case hDiscard =>
    rcases stageDiscard_state p s with e | e <;> rw [e]
    exacts [.nothing, .stageDiscarded]
  case hHead =>
    rcases configureHead_state p s with e | ⟨h, thawed, good, classed, head, e⟩ <;> rw [e]
    exacts [.nothing, .headConfigured h thawed good classed head]
  case hMask =>
    rcases setMask_state p s with e | ⟨h, thawed, e⟩ <;> rw [e]
    exacts [.nothing, .masked h thawed]
  case hOdo =>
    rcases setOdometry_state p s with e | ⟨thawed, good, e⟩ <;> rw [e]
    exacts [.nothing, .odometrySet thawed good]
  case hBase =>
    rcases setRouteBase_state p s with e | ⟨unarmed, e⟩ <;> rw [e]
    exacts [.nothing, .based unarmed]
  case hWrite =>
    rcases writeRouteEntry_state p s with e | ⟨x, good, free, envelope, defined, named, fresh, e⟩ <;> rw [e]
    exacts [.nothing, .entryWritten x good free envelope defined named fresh]
  case hClear =>
    rcases clearRouteEntry_state p s with e | ⟨good, free, e⟩ <;> rw [e]
    exacts [.nothing, .entryCleared good free]
  case hErase =>
    rcases eraseEnvelope_state p s with e | ⟨thawed, good, unnamed, e⟩ <;> rw [e]
    exacts [.nothing, .envelopeErased thawed good unnamed]
  case hMap =>
    rcases mapCells_state p s with e | ⟨span, early, defined, e⟩ <;> rw [e]
    exacts [.nothing, .mapped span early defined]
  case hUnmap =>
    rcases unmapCells_state p s with e | ⟨span, early, e⟩ <;> rw [e]
    exacts [.nothing, .unmapped span early]
  case hAdd =>
    rcases addMarker_state p s with e | ⟨early, room, clear, e⟩ <;> rw [e]
    exacts [.nothing, .markerAdded early room clear]
  case hRemove =>
    rcases removeMarker_state p s with e | ⟨early, e⟩ <;> rw [e]
    exacts [.nothing, .markerRemoved early]
  case hParams =>
    rcases setRunParameters_state p s with e | ⟨unarmed, good, lengths, marks, e⟩ <;> rw [e]
    exacts [.nothing, .paramsSet unarmed good lengths marks]
  case hArm =>
    rcases arm_state p s with e | ⟨unarmed, ready, e⟩ <;> rw [e]
    exacts [.nothing, .armed unarmed ready]
  case hStart =>
    rcases start_state p s with e | ⟨armed, e⟩ <;> rw [e]
    exacts [.nothing, .started armed]
  case hStop =>
    rcases stop_state p s with e | ⟨running, e⟩ <;> rw [e]
    exacts [.nothing, .stopped running]
  case hReset =>
    rcases resetRun_state p s with e | ⟨some, e⟩ <;> rw [e]
    exacts [.nothing, .runReset some]
  case hFloor =>
    rcases setLevelFloor_state p s with e | ⟨good, e⟩ <;> rw [e]
    exacts [.nothing, .floorSet good]
  case hAck =>
    rcases ackFault_state p s with e | e | e <;> rw [e]
    exacts [.nothing, .hardAcknowledged, .softAcknowledged]

end Sys2Proof.Machine

/-! The law of capacity (R146): no answer is longer than the claim made for it (R147), and a record joins only where it fits. -/

namespace Sys2Proof.Machine

/-! ### The length of an answer -/

/-- Every answer is short enough for the response claim (R147). -/
def shortReply (r : State × Reply) : Prop := r.2.payload.length ≤ 1024

section
variable {s : State} {p : List Byte}

theorem refuse_short {status : Status} {items : List Byte} (h : items.length ≤ 1024 := by simp) :
    shortReply (refuse status items s) := h

theorem accept_short {items : List Byte} (h : items.length ≤ 1024 := by simp) : shortReply (accept items s) := h

theorem badField_short {n : Nat} : shortReply (badField n s) := refuse_short

theorem withLength_short {n : Nat} {body : List Byte → State → State × Reply} (h : shortReply (body p s)) :
    shortReply (withLength n body p s) := by
  unfold withLength
  split
  exacts [h, refuse_short]

theorem stageOpen_short : shortReply (stageOpen p s) := by
  unfold stageOpen
  split
  · exact badField_short
  · split
    · exact refuse_short
    · split
      exacts [refuse_short, accept_short]

theorem stagePart_short : shortReply (stagePart p s) := by
  unfold stagePart
  split
  · exact refuse_short
  · split
    · exact refuse_short
    · dsimp only
      split_ifs
      exacts [badField_short, refuse_short, accept_short]

theorem stageCommit_short : shortReply (stageCommit p s) := by
  unfold stageCommit
  split
  · exact refuse_short
  · split
    · exact refuse_short
    · split
      · exact refuse_short
      · split
        exacts [refuse_short, accept_short]

theorem stageDiscard_short : shortReply (stageDiscard p s) := by
  unfold stageDiscard
  split
  exacts [refuse_short, accept_short]

theorem configureHead_short : shortReply (configureHead p s) := by
  unfold configureHead
  split
  · exact refuse_short
  · split
    · exact badField_short
    · split
      · exact badField_short
      · split
        exacts [badField_short, accept_short]

theorem setMask_short : shortReply (setMask p s) := by
  unfold setMask
  split
  · exact refuse_short
  · split
    exacts [badField_short, accept_short]

theorem setOdometry_short : shortReply (setOdometry p s) := by
  unfold setOdometry
  split
  · exact refuse_short
  · split
    exacts [badField_short, accept_short]

theorem setRouteBase_short : shortReply (setRouteBase p s) := by
  unfold setRouteBase
  dsimp only
  split_ifs
  exacts [refuse_short, badField_short, accept_short]

theorem writeRouteEntry_short : shortReply (writeRouteEntry p s) := by
  unfold writeRouteEntry
  split
  · exact badField_short
  · dsimp only
    split_ifs
    exacts [refuse_short, refuse_short, accept_short]

theorem clearRouteEntry_short : shortReply (clearRouteEntry p s) := by
  unfold clearRouteEntry
  dsimp only
  split_ifs
  exacts [badField_short, refuse_short, accept_short, accept_short]

theorem eraseEnvelope_short : shortReply (eraseEnvelope p s) := by
  unfold eraseEnvelope
  dsimp only
  split
  · exact refuse_short
  · split
    · exact badField_short
    · split
      · exact refuse_short
      · split
        exacts [accept_short, accept_short]

theorem mapCells_short : shortReply (mapCells p s) := by
  unfold mapCells
  dsimp only
  split
  · exact refuse_short
  · split
    · exact badField_short
    · split
      · exact refuse_short
      · split
        exacts [refuse_short, accept_short]

theorem unmapCells_short : shortReply (unmapCells p s) := by
  unfold unmapCells
  dsimp only
  split
  · exact badField_short
  · split
    exacts [refuse_short, accept_short]

theorem addMarker_short : shortReply (addMarker p s) := by
  unfold addMarker
  dsimp only
  split
  · exact badField_short
  · split
    · exact refuse_short
    · split
      · exact refuse_short
      · split
        exacts [refuse_short, accept_short]

theorem removeMarker_short : shortReply (removeMarker p s) := by
  unfold removeMarker
  dsimp only
  split
  · exact refuse_short
  · split
    exacts [accept_short, accept_short]

theorem setRunParameters_short : shortReply (setRunParameters p s) := by
  unfold setRunParameters
  split
  · exact refuse_short
  · split
    · exact badField_short
    · dsimp only
      split_ifs
      exacts [badField_short, badField_short, accept_short]

theorem length_armCheck_le {answer : List Byte} (h : armCheck s = some answer) : answer.length ≤ 1024 := by
  unfold armCheck at h
  split at h
  · cases h; simp
  · split at h
    · cases h; simp
    · split_ifs at h <;> cases h <;> simp

theorem arm_short : shortReply (arm p s) := by
  unfold arm
  split
  · exact refuse_short
  · split
    · exact refuse_short (length_armCheck_le ‹_›)
    · exact accept_short

theorem start_short : shortReply (start p s) := by
  unfold start
  split
  exacts [refuse_short, accept_short]

theorem stop_short : shortReply (stop p s) := by
  unfold stop
  split
  exacts [refuse_short, accept_short]

theorem resetRun_short : shortReply (resetRun p s) := by
  unfold resetRun
  split
  exacts [accept_short, accept_short]

theorem setLevelFloor_short : shortReply (setLevelFloor p s) := by
  unfold setLevelFloor
  dsimp only
  split
  exacts [badField_short, accept_short]

theorem ackFault_short : shortReply (ackFault p s) := by
  unfold ackFault
  split
  exacts [accept_short, accept_short, badField_short]

theorem readStatus_short (contexts : s.assembler.contexts.length ≤ 8) (intake : s.mgmt.intake.length ≤ 4) :
    shortReply (readStatus p s) := by
  unfold readStatus
  split
  · exact accept_short (length_sectionOf_le contexts intake ‹_›)
  · exact badField_short

@[simp] theorem length_envelopeBytes (e : Envelope) : (envelopeBytes e).length = 515 := by
  have limits : ((List.range sectorCount).flatMap fun i => encU 4 (limitAt e i)).length = 4 * 128 := by
    rw [length_flatMap_of_forall fun i _ => length_encU .., List.length_range]
    rfl
  simp [envelopeBytes, limits]

theorem length_spanBytes (rm : RouteMap) (first count : Nat) : (spanBytes rm first count).length = 6 + 2 * count := by
  have cells : (encList (fun k => cellBytes rm (first + k)) (List.range count)).length = 2 + 2 * (List.range count).length :=
    length_encList fun k _ => length_encU ..
  rw [spanBytes, List.length_append, cells, length_encI, List.length_range]
  omega

theorem length_calibrationBytes (h : HeadId) (c : Calibration) : (calibrationBytes h c).length = 3 + 2 * c.knots.length := by
  simp [calibrationBytes, length_flatMap_of_forall fun x (_ : x ∈ c.knots) => length_encI 2 x]
  omega

/-- What `firstBad` names nothing bad in is good throughout. -/
theorem firstBad_eq_none_iff (l : List (Nat × Bool)) : firstBad l = none ↔ ∀ e ∈ l, e.2 = true := by
  induction l with
  | nil => simp [firstBad]
  | cons e rest ih =>
    obtain ⟨n, ok⟩ := e
    cases ok <;> simp [firstBad, ih]

theorem inRange_iff {lo hi x : Int} : inRange lo hi x = true ↔ lo ≤ x ∧ x ≤ hi := by
  simp [inRange]

theorem readTable_short (knots : ∀ h, (s.correctors.get h).calibration.knots.length = 17) : shortReply (readTable p s) := by
  have entry : shortReply (readEntry p s) := by
    unfold readEntry
    dsimp only
    split
    · exact badField_short
    · exact accept_short (by simp [entryBytes])
  have envelope : shortReply (readEnvelope p s) := by
    unfold readEnvelope
    dsimp only
    split
    exacts [badField_short, accept_short]
  have span : shortReply (readSpan p s) := by
    unfold readSpan
    dsimp only
    split
    · exact badField_short
    · rename_i good
      have few : inRange 1 256 (fieldU 3 2 p) = true := (firstBad_eq_none_iff _).mp good (3, inRange 1 256 (fieldU 3 2 p)) (by simp)
      rw [inRange_iff] at few
      exact accept_short (by rw [length_spanBytes]; omega)
  have marker : shortReply (readMarker p s) := by
    unfold readMarker
    split
    · exact accept_short (by simp [markerBytes])
    · exact badField_short
  have calibration : shortReply (readCalibration p s) := by
    unfold readCalibration
    split
    · exact accept_short (by rw [length_calibrationBytes, knots]; omega)
    · exact badField_short
  unfold readTable
  split
  · exact refuse_short
  · split
    · exact withLength_short entry
    · exact withLength_short envelope
    · exact withLength_short span
    · exact withLength_short marker
    · exact withLength_short calibration
    · exact badField_short

/-- No answer outgrows the response claim. -/
theorem requestBody_short (bounds : responseBounds s) (k : Nat) : shortReply (requestBody k p s) := by
  obtain ⟨contexts, intake, knots⟩ := bounds
  unfold requestBody
  split
  · exact withLength_short (accept_short (by simp [identification]))
  · exact withLength_short (length_encU .. |>.trans_le (by decide))
  · exact withLength_short (readStatus_short contexts intake)
  · exact readTable_short knots
  · exact withLength_short stageOpen_short
  · exact stagePart_short
  · exact withLength_short stageCommit_short
  · exact withLength_short stageDiscard_short
  · exact withLength_short configureHead_short
  · exact withLength_short setMask_short
  · exact withLength_short setOdometry_short
  · exact withLength_short setRouteBase_short
  · exact withLength_short writeRouteEntry_short
  · exact withLength_short clearRouteEntry_short
  · exact withLength_short eraseEnvelope_short
  · exact mapCells_short
  · exact withLength_short unmapCells_short
  · exact withLength_short addMarker_short
  · exact withLength_short removeMarker_short
  · exact withLength_short setRunParameters_short
  · exact withLength_short arm_short
  · exact withLength_short start_short
  · exact withLength_short stop_short
  · exact withLength_short resetRun_short
  · exact withLength_short setLevelFloor_short
  · exact withLength_short ackFault_short
  · exact refuse_short

end

/-! ### The space of the queue -/

/-- The law of capacity with a response claim: the claim is space kept free. -/
def spaceLaw (q : Outbound) : Prop := occupancy q + q.responseClaim ≤ 65536 ∧ dataOccupancy q ≤ 61440

theorem capacityLaw_iff (q : Outbound) : capacityLaw q ↔ spaceLaw q ∧ q.responseClaim = 0 := by
  unfold capacityLaw spaceLaw
  omega

theorem spaceLaw.mono {q q' : Outbound} (h : spaceLaw q) (size : occupancy q' ≤ occupancy q := by exact le_rfl)
    (data : dataOccupancy q' ≤ dataOccupancy q := by exact le_rfl)
    (claim : q'.responseClaim ≤ q.responseClaim := by exact le_rfl) : spaceLaw q' := by
  unfold spaceLaw at *
  omega

theorem Move.space_law {s t : State} (h : spaceLaw s.queue) (m : Move s t) : spaceLaw t.queue := by
  cases m with
  | quiet hq _ _ => rwa [hq]
  | joinsControl r joins =>
    have fits := (fitsControl_iff _ _).mp joins.1
    have claim : (joinControl r s.queue).responseClaim = s.queue.responseClaim := rfl
    obtain ⟨-, data⟩ := h
    refine ⟨?_, data⟩
    rw [State.withQueue_queue, occupancy_joinControl, claim]
    omega
  | joinsData r k fits =>
    obtain ⟨fits, room⟩ := (fitsData_iff _ _).mp fits
    have joined : spaceLaw (joinData r s.queue) := by
      have claim : (joinData r s.queue).responseClaim = s.queue.responseClaim := rfl
      refine ⟨?_, ?_⟩
      · rw [occupancy_joinData, claim]
        omega
      · rw [dataOccupancy_joinData]
        omega
    exact joined
  | _ => exact h

theorem Moves.space_law {s t : State} (m : Moves s t) (h : spaceLaw s.queue) : spaceLaw t.queue :=
  m.keeps (P := fun s => spaceLaw s.queue) (fun _ _ => Move.space_law) h

/-- The holder is served into space that is free. -/
theorem serveHolder_space_law {q : Outbound} (h : spaceLaw q) : spaceLaw (serveHolder q) := by
  obtain ⟨n, e, fits, -⟩ := serveHolder_spec q
  obtain ⟨size, data⟩ := h
  have served : occupancy (serveHolder q) = occupancy q + totalSize (q.holder.take n) := by
    rw [e]
    simp only [occupancy, totalSize_append]
    omega
  refine ⟨?_, by simpa using data⟩
  rw [served, serveHolder_responseClaim]
  have := fits size
  omega

theorem arbitrate_space_law {q : Outbound} (h : spaceLaw q) : spaceLaw (arbitrate q) :=
  h.mono (by simp) (by simp) (by simp)

theorem dropSent_space_law {q : Outbound} (h : spaceLaw q) : spaceLaw (dropSent q) :=
  h.mono (occupancy_dropSent_le q) (dataOccupancy_dropSent_le q) (by simp)

theorem resetQueue_space_law {q : Outbound} (h : spaceLaw q) : spaceLaw (resetQueue q) := by
  have kept : totalSize (if q.sending = some .data then q.data.take 1 else []) ≤ totalSize q.data := by
    split
    · exact totalSize_take_le _ _
    · exact Nat.zero_le _
  exact serveHolder_space_law (h.mono (by simp only [occupancy]; omega) kept)

theorem BodyEffect.space_law {s t : State} (e : BodyEffect s t) (h : spaceLaw s.queue) : spaceLaw t.queue := by
  cases e with
  | moves m => exact m.space_law h
  | resetRun => exact resetQueue_space_law h
  | _ => exact h

theorem BodyEffect.responseClaim_eq {s t : State} (e : BodyEffect s t) : t.queue.responseClaim = s.queue.responseClaim := by
  cases e with
  | moves m => exact m.responseClaim_eq
  | resetRun => simp [resetQueue]
  | _ => rfl

/-- An answer within the claim joins the space kept for it. -/
theorem answered_space_law {s : State} {r : Request} {rest : List Request} {status : Status} {items : List Byte} {time : Nat}
    (h : spaceLaw s.queue) (claim : s.queue.responseClaim = 1040) (short : items.length ≤ 1024) :
    spaceLaw (answered s r rest status items time).queue := by
  obtain ⟨size, data⟩ := h
  refine arbitrate_space_law (serveHolder_space_law ⟨?_, data⟩)
  simp only [occupancy, totalSize_append, totalSize_cons, totalSize_nil, recordSize] at *
  omega

/-! ### The bounds of an answer -/

theorem contexts_bounded_invariant : AssemblerInvariant fun s => s.assembler.contexts.length ≤ 8 where
  same := fun set _ h => by rwa [set.contexts]
  progress := fun {s} h => by
    rw [progressTest, closeAll_contexts]
    exact (List.length_filter_le _ _).trans h
  timeOut := fun {s} j h => by
    rw [timeOutClosures, closeAll_contexts]
    exact (List.length_filter_le _ _).trans h
  oldest := fun e h => (AssemblerInvariant.length_contexts_closeContext_lt e h _).le
  opened := fun _ _ _ room _ => by simpa [openContext] using room
  fed := fun j sl results h => by simpa [feedSlice, changeContext] using h
  ticked := fun h => by simpa [advanceTime, tickTimers] using h
  halted := fun fault _ => by simp
  drained := fun _ => decideHalt_keeps (P := fun s => s.assembler.contexts.length ≤ 8) (by simp) (by simp)
  armed := fun _ => Nat.zero_le 8
  released := fun _ => Nat.zero_le 8
  powered := fun _ _ => Nat.zero_le 8

/-- What a part of a target must look like (R172). -/
def partShape (target : StagingTarget) (e : Nat × PartData) : Prop :=
  e.1 < partCount target
    ∧ match target, e.2 with
      | .envelope _, .limits centre limits => limits.length = 32 ∧ (centre.isSome = decide (e.1 = 0))
      | .calibration _, .knots knots _ => knots.length = 17
      | .envelope _, .knots _ _ => False
      | .calibration _, .limits _ _ => False

/-- The parts of one staging record keep their law. -/
def lawfulParts (st : Staging) : Prop := st.parts.Pairwise (fun a b => a.1 < b.1) ∧ ∀ e ∈ st.parts, partShape st.target e

theorem mem_insertPart {k : Nat} {d : PartData} {l : List (Nat × PartData)} {e : Nat × PartData} (h : e ∈ insertPart k d l) :
    e = (k, d) ∨ e ∈ l := by
  induction l with
  | nil => exact .inl (List.mem_singleton.mp h)
  | cons a rest ih =>
    unfold insertPart at h
    split_ifs at h
    · exact List.mem_cons.mp h
    · exact (List.mem_cons.mp h).imp_right (List.mem_cons_of_mem _)
    · rcases List.mem_cons.mp h with rfl | h
      · exact .inr (List.mem_cons_self ..)
      · exact (ih h).imp_right (List.mem_cons_of_mem _)

theorem insertPart_sorted {k : Nat} {d : PartData} {l : List (Nat × PartData)} (h : l.Pairwise fun a b => a.1 < b.1) :
    (insertPart k d l).Pairwise fun a b => a.1 < b.1 := by
  induction l with
  | nil => simp [insertPart]
  | cons a rest ih =>
    obtain ⟨above, sorted⟩ := List.pairwise_cons.mp h
    unfold insertPart
    split_ifs with lt eq
    · refine List.pairwise_cons.mpr ⟨fun e he => ?_, h⟩
      rcases List.mem_cons.mp he with rfl | he
      exacts [lt, lt.trans (above e he)]
    · exact List.pairwise_cons.mpr ⟨fun e he => eq ▸ above e he, sorted⟩
    · refine List.pairwise_cons.mpr ⟨fun e he => ?_, ih sorted⟩
      rcases mem_insertPart he with rfl | he
      · show a.1 < k
        omega
      · exact above e he

theorem partContent_shape {target : StagingTarget} {k : Nat} {payload : List Byte} (h : k < partCount target) :
    partShape target (k, partContent target k payload) := by
  refine ⟨h, ?_⟩
  cases target with
  | envelope j =>
    by_cases first : k = 0 <;> simp [partContent, fieldsU, first]
  | calibration p => simp [partContent, fieldsI]

theorem Carried.staging_law {p : List Byte} {s t : State} (c : Carried p s t) (h : stagingLaw s.mgmt) : stagingLaw t.mgmt := by
  cases c with
  | stageOpened target _ _ _ =>
    intro st e
    cases e
    exact ⟨List.Pairwise.nil, by simp⟩
  | partFilled st staged below _ =>
    intro st' e
    cases e
    obtain ⟨sorted, shapes⟩ := h st staged
    refine ⟨insertPart_sorted sorted, fun e he => ?_⟩
    rcases mem_insertPart he with rfl | he
    exacts [partContent_shape below, shapes e he]
  | committed st _ _ _ _ => exact fun _ e => by cases e
  | stageDiscarded => exact fun _ e => by cases e
  | started _ =>
    unfold startLinkLossIfDown startLinkLoss startHeadLoss
    split_ifs <;> exact h
  | stopped _ =>
    have drained : (drain s).mgmt = s.mgmt := by simp [drain]
    rwa [drained]
  | _ => exact h

/-- A staged calibration has the knots of its part. -/
theorem stagedCalibration_knots {st : Staging} {p : HeadId} (target : st.target = .calibration p) (law : lawfulParts st)
    (complete : missingPart st = none) : (stagedCalibration st.parts).knots.length = 17 := by
  obtain ⟨-, shapes⟩ := law
  rw [target] at shapes
  cases e : st.parts with
  | nil => simp [missingPart, target, partCount, partAt, e] at complete
  | cons a rest =>
    obtain ⟨k, d⟩ := a
    obtain ⟨-, shape⟩ := shapes (k, d) (by simp [e])
    cases d with
    | knots knots floor => exact shape
    | limits centre limits => exact shape.elim

theorem Carried.knots {p : List Byte} {s t : State} (c : Carried p s t) (staging : stagingLaw s.mgmt)
    (h : ∀ q, (s.correctors.get q).calibration.knots.length = 17) (q : HeadId) :
    (t.correctors.get q).calibration.knots.length = 17 := by
  cases c with
  | committed st staged complete _ _ =>
    show ((installTarget st s).correctors.get q).calibration.knots.length = 17
    unfold installTarget
    split
    · exact h q
    · rename_i head target
      by_cases e : q = head
      · subst e
        simpa [State.withCorrector] using stagedCalibration_knots target (staging st staged) complete
      · simpa [State.withCorrector, PerHead.get_set_ne _ _ _ _ e] using h q
  | masked head _ =>
    by_cases e : q = head
    · subst e
      simpa [State.withCorrector] using h q
    · simpa [State.withCorrector, PerHead.get_set_ne _ _ _ _ e] using h q
  | started _ =>
    unfold startLinkLossIfDown startLinkLoss startHeadLoss
    split_ifs <;> exact h q
  | stopped _ => simpa [drain] using h q
  | _ => exact h q

theorem Carried.intake {p : List Byte} {s t : State} (c : Carried p s t) : t.mgmt.intake = s.mgmt.intake := by
  cases c with
  | committed st _ _ _ _ =>
    show (installTarget st s).mgmt.intake = _
    unfold installTarget
    split <;> rfl
  | started _ =>
    unfold startLinkLossIfDown startLinkLoss startHeadLoss
    split_ifs <;> rfl
  | stopped _ => simp [drain]
  | _ => rfl

/-! ### The law over every command -/

/-- What bounds an answer besides the number of open contexts. -/
structure AnswerBounds (s : State) : Prop where
  intake : intakeLaw s.mgmt
  knots : ∀ h, (s.correctors.get h).calibration.knots.length = 17
  staging : stagingLaw s.mgmt

theorem exec_answer_bounds {c : Instr} {s t : State} (h : AnswerBounds s) (hexec : exec c s = .next t) : AnswerBounds t := by
  cases exec_act hexec with
  | configured m =>
    refine ⟨m.intake h.intake, fun p => by rw [m.calibration, h.knots], ?_⟩
    unfold stagingLaw
    rw [m.staging]
    exact h.staging
  | power lines _ => exact ⟨Nat.zero_le 4, fun p => by cases p <;> rfl, fun st e => by cases e⟩
  | taken k r rest ready =>
    have begun : stagingLaw (beginTaking rest s).mgmt := h.staging
    have body := requestBody_carried k r.payload (beginTaking rest s)
    refine ⟨?_, body.knots begun h.knots, body.staging_law begun⟩
    have waiting := h.intake
    rw [intakeLaw, ready.front, List.length_cons] at waiting
    show (requestBody k r.payload (beginTaking rest s)).1.mgmt.intake.length ≤ 4
    rw [body.intake, beginTaking_mgmt]
    exact (Nat.le_succ _).trans waiting

theorem exec_space_law {c : Instr} {s t : State} (h : spaceLaw s.queue)
    (bounds : responseBounds s) (hexec : exec c s = .next t) : spaceLaw t.queue := by
  have left {k : QueueCounters} {u v : State} (m : Moves (recordLeft k u) v) (hu : spaceLaw u.queue) :
      spaceLaw (serveHolder v.queue) := serveHolder_space_law (m.space_law (dropSent_space_law hu))
  cases exec_effect hexec with
  | none => exact h
  | event m => exact arbitrate_space_law (m.space_law h)
  | power lines _ => exact ⟨Nat.zero_le _, Nat.zero_le _⟩
  | down =>
    apply arbitrate_space_law
    rw [linkDown, startLinkLoss_queue]
    rcases abandon_cases (s.withQueue { s.queue with linkUp := false }) with ⟨-, e⟩ | ⟨k, u, m, e⟩ <;> rw [e]
    · exact dropSent_space_law (q := { s.queue with linkUp := false }) h
    · exact left m h
  | up => exact arbitrate_space_law h
  | complete =>
    apply arbitrate_space_law
    rcases completeTransmission_cases s with e | ⟨k, u, m, e⟩ <;> rw [e]
    exacts [h, left m h]
  | taken k r rest ready =>
    have begun : spaceLaw (beginTaking rest s).queue := ⟨ready.room, h.2⟩
    obtain ⟨contexts, intake, knots⟩ := bounds
    rw [ready.front, List.length_cons] at intake
    have body := requestBody_effect k r.payload (beginTaking rest s)
    have waiting : (beginTaking rest s).mgmt.intake.length ≤ 4 := (Nat.le_succ _).trans intake
    have short : shortReply (requestBody k r.payload (beginTaking rest s)) := requestBody_short (s := beginTaking rest s) ⟨contexts, waiting, knots⟩ k
    exact answered_space_law (body.space_law begun) body.responseClaim_eq short

/-- The response claim is 0 outside a taking (R147). -/
theorem exec_claim {c : Instr} {s t : State} (h : s.queue.responseClaim = 0) (hexec : exec c s = .next t) :
    t.queue.responseClaim = 0 := by
  have left {k : QueueCounters} {u v : State} (m : Moves (recordLeft k u) v) (hu : u.queue.responseClaim = 0) :
      (serveHolder v.queue).responseClaim = 0 := by
    rw [serveHolder_responseClaim, m.responseClaim_eq]
    simpa [recordLeft] using hu
  cases exec_effect hexec with
  | none => exact h
  | event m => simpa using m.responseClaim_eq.trans h
  | power lines _ => rfl
  | down =>
    rw [endEvent_queue, arbitrate_responseClaim, linkDown, startLinkLoss_queue]
    rcases abandon_cases (s.withQueue { s.queue with linkUp := false }) with ⟨-, e⟩ | ⟨k, u, m, e⟩ <;> rw [e]
    · simpa using h
    · exact left m h
  | up => simpa [linkUp] using h
  | complete =>
    rw [endEvent_queue, arbitrate_responseClaim]
    rcases completeTransmission_cases s with e | ⟨k, u, m, e⟩ <;> rw [e]
    exacts [h, left m h]
  | taken k r rest ready => simp [taken]

/-- Settles O51: space is kept by every move, and the claim of 1,040 bytes holds the longest answer with its header. -/
theorem capacityLawKept : Obligations.CapacityLawKept := by
  intro s t capacity bounds staging hstep
  have kept : capacityLaw t.queue ∧ t.assembler.contexts.length ≤ 8 ∧ AnswerBounds t := by
    refine step_keeps (fun s => capacityLaw s.queue ∧ s.assembler.contexts.length ≤ 8 ∧ AnswerBounds s)
      (fun u cs ⟨law, contexts, answers⟩ => ⟨law, contexts, answers.intake, answers.knots, answers.staging⟩)
      (fun c u v ⟨law, contexts, answers⟩ hexec => ?_) ⟨capacity, bounds.1, bounds.2.1, bounds.2.2, staging⟩ hstep
    obtain ⟨space, idle⟩ := (capacityLaw_iff _).mp law
    have room := exec_space_law space ⟨contexts, answers.intake, answers.knots⟩ hexec
    exact ⟨(capacityLaw_iff _).mpr ⟨room, exec_claim idle hexec⟩, contexts_bounded_invariant.exec_keeps id contexts hexec,
      exec_answer_bounds answers hexec⟩
  obtain ⟨law, contexts, answers⟩ := kept
  exact ⟨law, ⟨contexts, answers.intake, answers.knots⟩, answers.staging⟩

end Sys2Proof.Machine

/-! The law of the freeze (R16) and the law of the slot (R183). -/

namespace Sys2Proof.Machine

/-! ### What is not configured by a request -/

section
variable {s : State}

/-- Closures, offers and a halt after a change of the run state. -/
theorem drain_settled (s : State) :
    Settled ((s.withRun { s.run with runState := .draining }).withFaults { s.faults with headLoss := none }) (drain s) :=
  decideHalt_settled (r := (_, _)) (offerRunEnd_settled (closeAll_settled (.refl _)))

theorem drain_configured : Configured s (drain s) :=
  (drain_settled s).configured (Configured.refl s).same

theorem startLossTimers_configured {t : State} (m : Configured s t) : Configured s (startLinkLossIfDown (startHeadLoss t)) := by
  have headLoss : Configured s (startHeadLoss t) := by
    unfold startHeadLoss
    split_ifs
    exacts [m, m, m.same]
  unfold startLinkLossIfDown startLinkLoss
  split_ifs
  exacts [headLoss, headLoss.same, headLoss]

theorem unseeMarkers_sameMap (rm : RouteMap) : SameMap rm (unseeMarkers rm) :=
  ⟨rfl, rfl, rfl, rfl, by rw [unseeMarkers, List.map_map]; rfl⟩

theorem prepareRun_configured : Configured s (prepareRun s) :=
  ⟨fun _ => rfl, fun _ => rfl, fun _ => frozenPort_refl _, rfl, unseeMarkers_sameMap s.route, .refl _, rfl, id⟩

theorem resetRunEffect_configured : Configured s (resetRunEffect s) := by
  refine (Configured.refl s).same (settings := ?_)
  show (resetOdometry s).settings = _
  unfold resetOdometry
  split <;> rfl

end

/-! ### Spans of cells -/

section
variable {α : Type} [DecidableEq α] {d x : α} {t : List (Nat × α)} {i j : Nat}

/-- Another index than the one written reads as before, in any table. -/
theorem tableGet_tableSet_of_index_ne (h : j ≠ i) : tableGet d (tableSet d t i x) j = tableGet d t j := by
  induction t with
  | nil =>
    unfold tableSet
    split
    · rfl
    · exact if_neg h.symm
  | cons a rest ih =>
    unfold tableSet
    grind [tableGet]

end

section
variable {rm : RouteMap} {i j : Nat}

@[simp] theorem changeReferences_cells (f : Nat → Nat) (e : Nat) (rm : RouteMap) : (changeReferences f e rm).cells = rm.cells := rfl

theorem cellAt_unmapCell_of_ne (h : j ≠ i) : cellAt (unmapCell i rm) j = cellAt rm j := by
  unfold unmapCell
  split
  · rfl
  · exact tableGet_tableSet_of_index_ne h

theorem cellAt_mapCell_of_ne {e : Nat} (h : j ≠ i) : cellAt (mapCell i e rm) j = cellAt rm j := by
  refine (?_ : tableGet none (tableSet none (unmapCell i rm).cells i (some e)) j = cellAt rm j)
  rw [tableGet_tableSet_of_index_ne h]
  exact cellAt_unmapCell_of_ne h

/-- A span mapped leaves every cell outside it. -/
theorem cellAt_mapSpan_of_outside {l : List Nat} (h : j < i ∨ i + l.length ≤ j) : cellAt (mapSpan i l rm) j = cellAt rm j := by
  induction l generalizing i rm with
  | nil => rfl
  | cons e rest ih =>
    rw [List.length_cons] at h
    rw [mapSpan, ih (by omega), cellAt_mapCell_of_ne (by omega)]

theorem cellAt_unmapSpan_of_outside {n : Nat} (h : j < i ∨ i + n ≤ j) : cellAt (unmapSpan i n rm) j = cellAt rm j := by
  induction n generalizing i rm with
  | zero => rfl
  | succ n ih => rw [unmapSpan, ih (by omega), cellAt_unmapCell_of_ne (by omega)]

/-- What mapping and unmapping cells leave of the Route Map. -/
structure SameDirectory (rm rm' : RouteMap) : Prop where
  base : rm'.base = rm.base
  envelopes : rm'.envelopes = rm.envelopes
  markers : rm'.markers = rm.markers

theorem SameDirectory.trans {a b c : RouteMap} (m : SameDirectory a b) (h : SameDirectory b c) : SameDirectory a c :=
  ⟨h.base.trans m.base, h.envelopes.trans m.envelopes, h.markers.trans m.markers⟩

theorem unmapCell_sameDirectory (i : Nat) (rm : RouteMap) : SameDirectory rm (unmapCell i rm) := by
  unfold unmapCell
  split <;> exact ⟨rfl, rfl, rfl⟩

theorem mapCell_sameDirectory (i e : Nat) (rm : RouteMap) : SameDirectory rm (mapCell i e rm) :=
  (unmapCell_sameDirectory i rm).trans ⟨rfl, rfl, rfl⟩

theorem mapSpan_sameDirectory (i : Nat) (l : List Nat) (rm : RouteMap) : SameDirectory rm (mapSpan i l rm) := by
  induction l generalizing i rm with
  | nil => exact ⟨rfl, rfl, rfl⟩
  | cons e rest ih => exact (mapCell_sameDirectory i e rm).trans (ih ..)

theorem unmapSpan_sameDirectory (i n : Nat) (rm : RouteMap) : SameDirectory rm (unmapSpan i n rm) := by
  induction n generalizing i rm with
  | zero => exact ⟨rfl, rfl, rfl⟩
  | succ n ih => exact (unmapCell_sameDirectory i rm).trans (ih ..)

@[simp] theorem length_carriedIndices (p : List Byte) : (carriedIndices p).length = fieldU 2 1 p := by
  simp [carriedIndices, fieldsU]

end

/-! ### The guard line -/

/-- A span that is not late lies wholly beyond the guard line. -/
theorem cellBeyond_of_not_late {s : State} {g : Int} {first count j : Nat} (line : guardLine s = some g)
    (early : lateCell s first count = none) (le : first ≤ j) (lt : j < first + count) :
    cellBeyond s.run.params.direction s.route.base g j = true := by
  simp only [lateCell, line, Option.map_eq_none_iff, List.find?_eq_none, List.mem_map, List.mem_range, Bool.not_eq_true,
    Bool.not_eq_false'] at early
  exact early j ⟨j - first, by omega, by omega⟩

theorem outside_of_not_late {s : State} {g : Int} {first count j : Nat} (line : guardLine s = some g)
    (early : lateCell s first count = none)
    (behind : cellBeyond s.run.params.direction s.route.base g j = false) : j < first ∨ first + count ≤ j := by
  by_contra inside
  have := cellBeyond_of_not_late line early (j := j) (by omega) (by omega)
  rw [behind] at this
  exact Bool.false_ne_true this

theorem markerBeyond_of_not_late {s : State} {g position : Int} (line : guardLine s = some g)
    (early : lateMarker s position = none) : markerBeyond s.run.params.direction g position = true := by
  simp only [lateMarker, line] at early
  by_contra behind
  rw [if_neg behind] at early
  cases early

theorem guardedMarkers_of_places {d : Direction} {g : Int} {ms ns : List Marker}
    (h : ns.map (fun m => (m.position, m.label)) = ms.map fun m => (m.position, m.label)) :
    guardedMarkers d g ns = guardedMarkers d g ms := by
  have filtered (l : List Marker) : guardedMarkers d g l
      = (l.map fun m => (m.position, m.label)).filter fun q => !markerBeyond d g q.1 := by
    rw [guardedMarkers, List.filter_map]
    rfl
  rw [filtered, filtered, h]

/-- A marker beyond the line is not among the guarded ones. -/
theorem guardedMarkers_insertMarker {d : Direction} {g : Int} {m : Marker} {ms : List Marker}
    (h : markerBeyond d g m.position = true) : guardedMarkers d g (insertMarker m ms) = guardedMarkers d g ms := by
  have kept : (insertMarker m ms).filter (fun n => !markerBeyond d g n.position)
      = ms.filter fun n => !markerBeyond d g n.position := by
    induction ms with
    | nil => simp [insertMarker, h]
    | cons n rest ih =>
      unfold insertMarker
      split
      · simp [List.filter_cons, h]
      · simp only [List.filter_cons, ih]
  rw [guardedMarkers, kept]
  rfl

theorem guardedMarkers_filter_position {d : Direction} {g position : Int} {ms : List Marker}
    (h : markerBeyond d g position = true) :
    guardedMarkers d g (ms.filter fun n => n.position != position) = guardedMarkers d g ms := by
  have kept : (ms.filter fun n => n.position != position).filter (fun n => !markerBeyond d g n.position)
      = ms.filter fun n => !markerBeyond d g n.position := by
    rw [List.filter_filter]
    refine List.filter_congr fun n _ => ?_
    by_cases e : n.position = position
    · simp [e, h]
    · simp [e]
  rw [guardedMarkers, kept]
  rfl

/-! ### The law of the freeze -/

theorem Configured.freeze_law {s t : State} (m : Configured s t) : freezeLaw s t := by
  obtain ⟨a, b, e, -, -⟩ := m.settings
  refine ⟨m.route.envelopes, m.route.base, fun h => ⟨m.calibration h, m.mask h⟩, m.ports, by rw [e], m.params, fun g _ =>
    ⟨fun i _ => ?_, guardedMarkers_of_places m.route.places⟩⟩
  rw [cellAt, m.route.cells]
  rfl

/-- A request that writes only the Route Map, beyond the guard line. -/
theorem freezeLaw_withRoute {s : State} {rm : RouteMap} (base : rm.base = s.route.base)
    (envelopes : rm.envelopes = s.route.envelopes)
    (cells : ∀ g, guardLine s = some g → ∀ i, cellBeyond s.run.params.direction s.route.base g i = false →
      cellAt rm i = cellAt s.route i)
    (markers : ∀ g, guardLine s = some g →
      guardedMarkers s.run.params.direction g rm.markers = guardedMarkers s.run.params.direction g s.route.markers) :
    freezeLaw s (s.withRoute rm) :=
  ⟨envelopes, base, fun _ => ⟨rfl, rfl⟩, fun _ => frozenPort_refl _, rfl, rfl, fun g hg => ⟨cells g hg, markers g hg⟩⟩

/-- In a frozen run state a request carries out only what the freeze lets it. -/
theorem Carried.freeze_law {p : List Byte} {s t : State} (c : Carried p s t) (h : frozen s.run.runState = true) :
    freezeLaw s t := by
  have m := Configured.refl s
  have thawed_absurd (thawed : frozen s.run.runState = false) : freezeLaw s t := by simp [h] at thawed
  have unarmed_absurd (unarmed : s.run.runState = .unarmed) : freezeLaw s t := by simp [unarmed, frozen] at h
  cases c with
  | nothing => exact m.freeze_law
  | time => exact m.same.freeze_law
  | stageOpened _ _ _ thawed => exact thawed_absurd thawed
  | partFilled st _ _ _ => exact m.freeze_law
  | committed _ _ _ _ thawed => exact thawed_absurd thawed
  | stageDiscarded => exact m.freeze_law
  | headConfigured _ thawed _ _ _ => exact thawed_absurd thawed
  | masked _ thawed => exact thawed_absurd thawed
  | odometrySet thawed _ => exact thawed_absurd thawed
  | based unarmed => exact unarmed_absurd unarmed
  | entryWritten e _ _ _ _ _ _ => exact freezeLaw_withRoute rfl rfl (fun _ _ _ _ => rfl) fun _ _ => rfl
  | entryCleared _ _ => exact freezeLaw_withRoute rfl rfl (fun _ _ _ _ => rfl) fun _ _ => rfl
  | envelopeErased thawed _ _ => exact thawed_absurd thawed
  | mapped _ early _ =>
    have kept := mapSpan_sameDirectory (fieldU 0 2 p) (carriedIndices p) s.route
    refine freezeLaw_withRoute kept.base kept.envelopes (fun g line i behind => ?_) fun g _ => by rw [kept.markers]
    exact cellAt_mapSpan_of_outside (by simpa using outside_of_not_late line early behind)
  | unmapped _ early =>
    have kept := unmapSpan_sameDirectory (fieldU 0 2 p) (fieldU 2 1 p) s.route
    refine freezeLaw_withRoute kept.base kept.envelopes (fun g line i behind => ?_) fun g _ => by rw [kept.markers]
    exact cellAt_unmapSpan_of_outside (outside_of_not_late line early behind)
  | markerAdded early _ _ =>
    exact freezeLaw_withRoute rfl rfl (fun _ _ _ _ => rfl) fun g line =>
      guardedMarkers_insertMarker (markerBeyond_of_not_late line early)
  | markerRemoved early =>
    exact freezeLaw_withRoute rfl rfl (fun _ _ _ _ => rfl) fun g line =>
      guardedMarkers_filter_position (markerBeyond_of_not_late line early)
  | paramsSet unarmed _ _ _ => exact unarmed_absurd unarmed
  | armed unarmed _ => exact unarmed_absurd unarmed
  | started _ => exact (startLossTimers_configured m.same).freeze_law
  | stopped _ => exact drain_configured.freeze_law
  | runReset _ => exact resetRunEffect_configured.freeze_law
  | floorSet _ => exact m.freeze_law
  | hardAcknowledged => exact m.freeze_law
  | softAcknowledged => exact m.freeze_law

/-! ### The law of the slot -/

/-- The law of the slot, and that a lock stays: what holds over a chain of moves. -/
def slotKept (x y : Slot) : Prop := slotLaw x y ∧ (x.lock = true → y.lock = true)

theorem slotKept_refl (x : Slot) : slotKept x x := ⟨⟨fun _ => rfl, id⟩, id⟩

theorem slotKept_trans {x y z : Slot} (m : slotKept x y) (h : slotKept y z) : slotKept x z := by
  obtain ⟨⟨record, lost⟩, lock⟩ := m
  obtain ⟨⟨record', lost'⟩, lock'⟩ := h
  exact ⟨⟨fun hx => (record' (lock hx)).trans (record hx), lost' ∘ lost⟩, lock' ∘ lock⟩

/-- A lost count that saturates at 255 stays within it. -/
theorem slotKept_lost (x : Slot) : slotKept x { x with lost := satAdd 255 x.lost 1 } :=
  ⟨⟨fun _ => rfl, fun _ => Nat.min_le_left _ _⟩, id⟩

theorem slotKept_captureIn (r : FaultRecord) (x : Slot) : slotKept x (captureIn r x) := by
  unfold captureIn
  split
  · exact slotKept_lost x
  · rename_i free
    exact ⟨⟨fun locked => absurd locked free, id⟩, fun _ => rfl⟩

/-- Both slots keep their law. -/
def slotsKept (f g : FaultCapture) : Prop := slotKept f.hard g.hard ∧ slotKept f.soft g.soft

theorem slotsKept_refl (f : FaultCapture) : slotsKept f f := ⟨slotKept_refl _, slotKept_refl _⟩

theorem Move.slots_kept {s t : State} (m : Move s t) : slotsKept s.faults t.faults := by
  cases m with
  | quiet _ hard soft => exact ⟨hard ▸ slotKept_refl _, soft ▸ slotKept_refl _⟩
  | soft e => exact ⟨slotKept_refl _, slotKept_captureIn _ _⟩
  | hard e => exact ⟨slotKept_captureIn _ _, slotKept_refl _⟩
  | eventLoss => exact ⟨slotKept_refl _, slotKept_lost _⟩
  | _ => exact slotsKept_refl _

theorem Moves.slots_kept {s t : State} (m : Moves s t) : slotsKept s.faults t.faults :=
  m.keeps (P := fun t => slotsKept s.faults t.faults)
    (fun _ _ ⟨hard, soft⟩ last => ⟨slotKept_trans hard last.slots_kept.1, slotKept_trans soft last.slots_kept.2⟩)
    (slotsKept_refl _)

/-- Acknowledging keeps the record and sets the lost count to 0. -/
theorem slotLaw_acknowledge (x : Slot) : slotLaw x (acknowledge x) := ⟨fun _ => rfl, fun _ => Nat.zero_le _⟩

/-- Both slots obey the law. -/
def slotLaws (f g : FaultCapture) : Prop := slotLaw f.hard g.hard ∧ slotLaw f.soft g.soft

theorem slotsKept.laws {f g : FaultCapture} (h : slotsKept f g) : slotLaws f g := ⟨h.1.1, h.2.1⟩

theorem BodyEffect.slot_laws {s t : State} (e : BodyEffect s t) : slotLaws s.faults t.faults := by
  cases e with
  | moves m => exact m.slots_kept.laws
  | floor f _ => exact (slotsKept_refl _).laws
  | resetRun => exact (slotsKept_refl s.faults).laws
  | acknowledgeHard => exact ⟨slotLaw_acknowledge _, (slotKept_refl _).1⟩
  | acknowledgeSoft => exact ⟨(slotKept_refl _).1, slotLaw_acknowledge _⟩

/-- Every command but those of power obeys the law of the slot. -/
theorem exec_slot_laws {c : Instr} {s t : State} (unpowered : ∀ lines, c ≠ .powerOn lines) (running : c ≠ .resetInput)
    (h : exec c s = .next t) : slotLaws s.faults t.faults := by
  cases exec_effect h with
  | none => exact (slotsKept_refl _).laws
  | event m => simpa using m.slots_kept.laws
  | power lines e => exact e.elim (fun ⟨l, hl⟩ => absurd hl (unpowered l)) fun hr => absurd hr running
  | down =>
    have started (u : State) : slotsKept u.faults (startLinkLoss u).faults := by
      unfold startLinkLoss
      split <;> exact slotsKept_refl u.faults
    rw [endEvent_faults, linkDown]
    obtain ⟨hard, soft⟩ := started (abandon (s.withQueue { s.queue with linkUp := false }))
    suffices abandoned : slotsKept s.faults (abandon (s.withQueue { s.queue with linkUp := false })).faults from
      slotsKept.laws ⟨slotKept_trans abandoned.1 hard, slotKept_trans abandoned.2 soft⟩
    rcases abandon_cases (s.withQueue { s.queue with linkUp := false }) with ⟨-, e⟩ | ⟨k, u, m, e⟩ <;> rw [e]
    · exact slotsKept_refl s.faults
    · exact m.slots_kept
  | up => exact (slotsKept_refl s.faults).laws
  | complete =>
    rw [endEvent_faults]
    rcases completeTransmission_cases s with e | ⟨k, u, m, e⟩ <;> rw [e]
    · exact (slotsKept_refl _).laws
    · exact m.slots_kept.laws
  | taken k r rest _ => exact (requestBody_effect k r.payload (beginTaking rest s)).slot_laws

/-- Settles O60: in a frozen run state only what the freeze permits is carried out, and each report keeps a locked record. -/
theorem freezeAndSlotLaws : Obligations.FreezeAndSlotLaws := by
  intro c rest s t front unpowered running hstep
  rcases step_cases hstep with ⟨empty, -⟩ | ⟨c', rest', front', hexec⟩
  · simp [front] at empty
  · obtain ⟨rfl, rfl⟩ : c' = c ∧ rest' = rest := by simpa [front] using front'.symm
    have slots := exec_slot_laws unpowered running hexec
    refine ⟨fun h => ?_, slots.1, slots.2⟩
    cases exec_act hexec with
    | configured m => exact m.freeze_law
    | power lines e => exact e.elim (fun ⟨l, hl⟩ => absurd hl (unpowered l)) fun hr => absurd hr running
    | taken k r others _ =>
      exact (requestBody_carried k r.payload (beginTaking others (s.withPending rest'))).freeze_law h

end Sys2Proof.Machine

/-! The Route Map's laws: canonical tables (log 19), references and integrity (R87), the marker list (R97) and the library (R90);
the ranges of the run parameters and of the odometry settings (R5, R7, R80). -/

namespace Sys2Proof.Machine

/-! ### More about canonical tables -/

section
variable {α : Type} {d x : α} {t : List (Nat × α)} {i n : Nat}

theorem mem_of_tableGet_ne (h : tableGet d t i ≠ d) : (i, tableGet d t i) ∈ t := by
  induction t with
  | nil => exact absurd rfl h
  | cons a rest ih =>
    obtain ⟨k, y⟩ := a
    unfold tableGet at h ⊢
    split_ifs at h ⊢ with e
    · exact e ▸ List.mem_cons_self ..
    · exact List.mem_cons_of_mem _ (ih h)

variable [DecidableEq α]

theorem keys_tableSet (h : ∀ e ∈ t, e.1 < n) (hi : x ≠ d → i < n) : ∀ e ∈ tableSet d t i x, e.1 < n := by
  intro e he
  rcases mem_or_eq_of_mem_tableSet he with he | ⟨rfl, hx⟩
  exacts [h e he, hi hx]

/-- How many listed values have a property after a write: the old value leaves, the new one comes. -/
theorem countP_tableSet (q : α → Bool) (h : tableWf d t) (hd : q d = false) :
    (tableSet d t i x).countP (fun e => q e.2) + (if q (tableGet d t i) = true then 1 else 0)
      = t.countP (fun e => q e.2) + if q x = true then 1 else 0 := by
  induction t with
  | nil =>
    unfold tableSet tableGet
    split_ifs <;> simp_all
  | cons a rest ih =>
    obtain ⟨k, y⟩ := a
    obtain ⟨above, -⟩ := List.pairwise_cons.mp h.1
    have ih := ih (tableWf_tail h)
    have absent (lt : i ≤ k) : tableGet d rest i = d :=
      tableGet_of_forall_ne fun e he => (lt.trans_lt (above e he)).ne'
    unfold tableSet tableGet
    rcases lt_trichotomy i k with lt | rfl | gt
    · rw [if_pos lt, if_neg lt.ne', absent lt.le, hd]
      split_ifs with hx <;> simp_all [List.countP_cons]
    · rw [if_neg (lt_irrefl i), if_pos rfl, if_pos rfl]
      split_ifs with hx <;> simp_all
    · rw [if_neg gt.not_gt, if_neg gt.ne', if_neg gt.ne]
      simp only [List.countP_cons]
      omega

theorem tableWf_tableMap {f : α → α} (h : tableWf d t) : tableWf d (tableMap d f t) := by
  refine ⟨?_, fun e he => by simpa using (List.mem_filter.mp he).2⟩
  exact ((List.pairwise_map.mpr h.1 : (t.map fun e => (e.1, f e.2)).Pairwise fun a b => a.1 < b.1)).filter _

theorem keys_tableMap {f : α → α} (h : ∀ e ∈ t, e.1 < n) : ∀ e ∈ tableMap d f t, e.1 < n := by
  intro e he
  obtain ⟨a, ha, rfl⟩ := List.mem_map.mp (List.mem_filter.mp he).1
  exact h a ha

/-- A function that keeps the default is applied to every value. -/
theorem tableGet_tableMap {f : α → α} (h : tableWf d t) (hf : f d = d) :
    tableGet d (tableMap d f t) i = f (tableGet d t i) := by
  induction t with
  | nil => exact hf.symm
  | cons a rest ih =>
    obtain ⟨k, y⟩ := a
    obtain ⟨above, -⟩ := List.pairwise_cons.mp h.1
    have ih := ih (tableWf_tail h)
    have mapped : tableMap d f ((k, y) :: rest)
        = if f y = d then tableMap d f rest else (k, f y) :: tableMap d f rest := by
      unfold tableMap
      by_cases e : f y = d <;> simp [e]
    rw [mapped, tableGet]
    split_ifs with hy hk hk
    · subst hk
      rw [ih, tableGet_of_forall_ne (t := rest) fun e he => (above e he).ne', hf, hy]
    · exact ih
    · rw [tableGet, if_pos hk]
    · rw [tableGet, if_neg hk, ih]

end

/-! ### The tables of the Route Map -/

/-- The Route Map's laws of its tables, of reference and of integrity. -/
structure RouteLaws (rm : RouteMap) : Prop where
  table : tableLaw rm
  reference : referenceLaw rm
  integrity : integrityLaw rm

section
variable {rm : RouteMap} {i e : Nat}

/-- Only the cells, entries and envelopes matter. -/
theorem tableLaw_congr {rm' : RouteMap} (h : tableLaw rm) (cells : rm'.cells = rm.cells) (entries : rm'.entries = rm.entries)
    (envelopes : rm'.envelopes = rm.envelopes) : tableLaw rm' := by
  unfold tableLaw
  rwa [cells, entries, envelopes]

theorem RouteLaws.congr {rm' : RouteMap} (h : RouteLaws rm) (cells : rm'.cells = rm.cells) (entries : rm'.entries = rm.entries)
    (envelopes : rm'.envelopes = rm.envelopes) : RouteLaws rm' := by
  obtain ⟨table, reference, integrity⟩ := h
  refine ⟨tableLaw_congr table cells entries envelopes, ?_, ?_⟩
  · unfold referenceLaw entryAt cellsNaming
    rwa [cells, entries]
  · unfold integrityLaw cellAt entryAt envelopeAt
    rwa [cells, entries, envelopes]

theorem SameMap.route_laws {rm' : RouteMap} (m : SameMap rm rm') (h : RouteLaws rm) : RouteLaws rm' :=
  h.congr m.cells m.entries m.envelopes

theorem lt_of_entry_defined (h : tableLaw rm) (defined : (entryAt rm e).defined = true) : e < 512 := by
  obtain ⟨-, -, -, -, keys, -⟩ := h
  have listed : entryAt rm e ≠ {} := fun eq => by simp [eq] at defined
  exact keys _ (mem_of_tableGet_ne listed)

/-- An entry whose references change keeps all else, and so does every other entry. -/
theorem entryAt_changeReferences {f : Nat → Nat} (h : tableLaw rm) (x : Nat) :
    entryAt (changeReferences f e rm) x
      = if x = e then { entryAt rm e with references := f (entryAt rm e).references } else entryAt rm x :=
  tableGet_tableSet h.2.1

theorem changeReferences_table_law {f : Nat → Nat} (h : tableLaw rm) (place : e < 512 ∨ f 0 = 0) :
    tableLaw (changeReferences f e rm) := by
  obtain ⟨cells, entries, envelopes, cellKeys, entryKeys, envelopeKeys⟩ := h
  refine ⟨cells, tableWf_tableSet entries, envelopes, cellKeys, keys_tableSet entryKeys fun listed => ?_, envelopeKeys⟩
  rcases place with lt | zero
  · exact lt
  · by_contra outside
    have default : entryAt rm e = {} := tableGet_of_forall_ne fun a ha eq => outside (eq ▸ entryKeys a ha)
    exact listed (by rw [default]; simp [zero])

theorem withCells_table_law {x : Option Nat} (h : tableLaw rm) (lt : x ≠ none → i < 4096) :
    tableLaw { rm with cells := tableSet none rm.cells i x } := by
  obtain ⟨cells, entries, envelopes, cellKeys, entryKeys, envelopeKeys⟩ := h
  exact ⟨tableWf_tableSet cells, entries, envelopes, keys_tableSet cellKeys lt, entryKeys, envelopeKeys⟩

theorem unmapCell_table_law (h : tableLaw rm) : tableLaw (unmapCell i rm) := by
  unfold unmapCell
  split
  · exact h
  · exact changeReferences_table_law (withCells_table_law h fun some => absurd rfl some) (.inr rfl)

theorem mapCell_table_law (h : tableLaw rm) (cell : i < 4096) (entry : e < 512) : tableLaw (mapCell i e rm) :=
  changeReferences_table_law (withCells_table_law (unmapCell_table_law h) fun _ => cell) (.inl entry)

theorem mapSpan_table_law {l : List Nat} (h : tableLaw rm) (cells : i + l.length ≤ 4096) (entries : ∀ e ∈ l, e < 512) :
    tableLaw (mapSpan i l rm) := by
  induction l generalizing i rm with
  | nil => exact h
  | cons e rest ih =>
    rw [List.length_cons] at cells
    exact ih (mapCell_table_law h (by omega) (entries e (List.mem_cons_self ..))) (by omega)
      fun x hx => entries x (List.mem_cons_of_mem _ hx)

theorem unmapSpan_table_law {n : Nat} (h : tableLaw rm) : tableLaw (unmapSpan i n rm) := by
  induction n generalizing i rm with
  | zero => exact h
  | succ n ih => exact ih (unmapCell_table_law h)

/-- What a new window base makes of an entry (R86). -/
def withoutReferences (e : RouteEntry) : RouteEntry := { e with references := 0 }

theorem rebase_table_law (base : Int) (h : tableLaw rm) : tableLaw (rebase base rm) := by
  obtain ⟨-, entries, envelopes, -, entryKeys, envelopeKeys⟩ := h
  exact ⟨⟨List.Pairwise.nil, by simp [rebase]⟩, tableWf_tableMap (f := withoutReferences) entries, envelopes, by simp [rebase],
    keys_tableMap (f := withoutReferences) entryKeys, envelopeKeys⟩

/-! ### References and integrity -/

/-- How many cells name an entry after one cell is written. -/
theorem cellsNaming_tableSet {x : Option Nat} (h : tableLaw rm) (k : Nat) :
    cellsNaming { rm with cells := tableSet none rm.cells i x } k + (if cellAt rm i = some k then 1 else 0)
      = cellsNaming rm k + if x = some k then 1 else 0 := by
  have counted := countP_tableSet (i := i) (x := x) (fun c => c == some k) h.1 rfl
  simp only [beq_iff_eq] at counted
  unfold cellsNaming cellAt
  convert counted

/-- The three laws with the reference counts and the cells given outright. -/
theorem routeLaws_of_write {rm' : RouteMap} (table : tableLaw rm') (h : RouteLaws rm)
    (references : ∀ k, (entryAt rm' k).references = cellsNaming rm' k)
    (cells : ∀ j k, cellAt rm' j = some k → cellAt rm j = some k ∨ (entryAt rm k).defined = true)
    (entries : ∀ k, (entryAt rm' k).defined = (entryAt rm k).defined ∧ (entryAt rm' k).envelope = (entryAt rm k).envelope)
    (envelopes : rm'.envelopes = rm.envelopes) : RouteLaws rm' := by
  refine ⟨table, references, fun j k hk => ?_, fun k hk => ?_⟩
  · rw [(entries k).1]
    rcases cells j k hk with named | defined
    exacts [h.integrity.1 j k named, defined]
  · rw [(entries k).1] at hk
    rw [(entries k).2, envelopeAt, envelopes]
    exact h.integrity.2 k hk

theorem unmapCell_of_none (h : cellAt rm i = none) : unmapCell i rm = rm := by
  unfold unmapCell; rw [h]

theorem unmapCell_of_some (h : cellAt rm i = some e) :
    unmapCell i rm = changeReferences (fun n => n - 1) e { rm with cells := tableSet none rm.cells i none } := by
  unfold unmapCell; rw [h]

theorem unmapCell_route_laws (h : RouteLaws rm) : RouteLaws (unmapCell i rm) := by
  have table := unmapCell_table_law (i := i) h.table
  cases named : cellAt rm i with
  | none =>
    rw [unmapCell_of_none named]
    exact h
  | some k =>
    rw [unmapCell_of_some named] at table ⊢
    have free : tableLaw { rm with cells := tableSet none rm.cells i none } :=
      withCells_table_law h.table fun some => absurd rfl some
    refine routeLaws_of_write table h (fun x => ?_) (fun j x hx => ?_) (fun x => ?_) rfl
    · have counted := cellsNaming_tableSet (i := i) (x := none) h.table x
      rw [named] at counted
      have before := h.reference x
      rw [entryAt_changeReferences free]
      show _ = cellsNaming { rm with cells := tableSet none rm.cells i none } x
      by_cases e : x = k
      · subst e
        have same : (entryAt { rm with cells := tableSet none rm.cells i none } x).references = cellsNaming rm x := before
        simp only [if_true, same, reduceCtorEq, if_false] at counted ⊢
        omega
      · have same : (entryAt { rm with cells := tableSet none rm.cells i none } x).references = cellsNaming rm x := before
        simp only [if_neg e, same, Option.some.injEq, if_neg (Ne.symm e), reduceCtorEq, if_false] at counted ⊢
        omega
    · refine .inl ?_
      have read : cellAt (changeReferences (fun n => n - 1) k { rm with cells := tableSet none rm.cells i none }) j
          = if j = i then none else cellAt rm j := tableGet_tableSet h.table.1
      rw [read] at hx
      split_ifs at hx
      exact hx
    · rw [entryAt_changeReferences free]
      split_ifs with e
      · subst e
        exact ⟨rfl, rfl⟩
      · exact ⟨rfl, rfl⟩

theorem cellAt_unmapCell_self (h : tableLaw rm) : cellAt (unmapCell i rm) i = none := by
  unfold unmapCell
  split
  · assumption
  · refine (tableGet_tableSet h.1).trans (if_pos rfl)

/-- Unmapping a cell changes no entry but in its reference count. -/
theorem entry_unmapCell (h : tableLaw rm) (k : Nat) :
    ∃ n, entryAt (unmapCell i rm) k = { entryAt rm k with references := n } := by
  unfold unmapCell
  split
  · exact ⟨_, rfl⟩
  · have free : tableLaw { rm with cells := tableSet none rm.cells i none } := withCells_table_law h fun some => absurd rfl some
    rw [entryAt_changeReferences free]
    split_ifs with e
    · subst e
      exact ⟨_, rfl⟩
    · exact ⟨(entryAt rm k).references, rfl⟩

theorem mapCell_route_laws (h : RouteLaws rm) (cell : i < 4096) (defined : (entryAt rm e).defined = true) :
    RouteLaws (mapCell i e rm) := by
  have bound := lt_of_entry_defined h.table defined
  have unmapped := unmapCell_route_laws (i := i) h
  have free := cellAt_unmapCell_self (i := i) h.table
  have still : (entryAt (unmapCell i rm) e).defined = true := by
    obtain ⟨n, eq⟩ := entry_unmapCell (i := i) h.table e
    rw [eq, defined]
  have table := mapCell_table_law h.table cell bound
  unfold mapCell at table ⊢
  generalize unmapCell i rm = um at *
  have written : tableLaw { um with cells := tableSet none um.cells i (some e) } :=
    withCells_table_law unmapped.table fun _ => cell
  refine routeLaws_of_write table unmapped (fun x => ?_) (fun j x hx => ?_) (fun x => ?_) rfl
  · have counted := cellsNaming_tableSet (i := i) (x := some e) unmapped.table x
    have before := unmapped.reference x
    rw [entryAt_changeReferences written]
    show _ = cellsNaming { um with cells := tableSet none um.cells i (some e) } x
    have same : (entryAt { um with cells := tableSet none um.cells i (some e) } x).references = cellsNaming um x := before
    by_cases eq : x = e
    · subst eq
      simp only [if_true, same, free, reduceCtorEq, if_false] at counted ⊢
      omega
    · simp only [if_neg eq, same, free, Option.some.injEq, if_neg (Ne.symm eq), reduceCtorEq, if_false] at counted ⊢
      omega
  · have read : cellAt (changeReferences (fun n => n + 1) e { um with cells := tableSet none um.cells i (some e) }) j
        = if j = i then some e else cellAt um j := tableGet_tableSet unmapped.table.1
    rw [read] at hx
    split_ifs at hx
    · cases hx
      exact .inr still
    · exact .inl hx
  · rw [entryAt_changeReferences written]
    split_ifs with eq
    · subst eq
      exact ⟨rfl, rfl⟩
    · exact ⟨rfl, rfl⟩

/-- Mapping a cell changes no entry but in its reference count. -/
theorem entry_mapCell (h : tableLaw rm) (cell : i < 4096) (k : Nat) :
    ∃ n, entryAt (mapCell i e rm) k = { entryAt rm k with references := n } := by
  have written : tableLaw { unmapCell i rm with cells := tableSet none (unmapCell i rm).cells i (some e) } :=
    withCells_table_law (unmapCell_table_law h) fun _ => cell
  obtain ⟨n, eq⟩ := entry_unmapCell (i := i) h k
  unfold mapCell
  rw [entryAt_changeReferences written]
  have same (x : Nat) : entryAt { unmapCell i rm with cells := tableSet none (unmapCell i rm).cells i (some e) } x
      = entryAt (unmapCell i rm) x := rfl
  split_ifs with ke
  · subst ke
    exact ⟨_, by rw [same, eq]⟩
  · exact ⟨n, by rw [same, eq]⟩

theorem mapSpan_route_laws {l : List Nat} (h : RouteLaws rm) (cells : i + l.length ≤ 4096)
    (defined : ∀ e ∈ l, (entryAt rm e).defined = true) : RouteLaws (mapSpan i l rm) := by
  induction l generalizing i rm with
  | nil => exact h
  | cons e rest ih =>
    rw [List.length_cons] at cells
    refine ih (mapCell_route_laws h (by omega) (defined e (List.mem_cons_self ..))) (by omega) fun x hx => ?_
    obtain ⟨n, eq⟩ := entry_mapCell (i := i) (e := e) h.table (by omega) x
    rw [eq]
    exact defined x (List.mem_cons_of_mem _ hx)

theorem unmapSpan_route_laws {n : Nat} (h : RouteLaws rm) : RouteLaws (unmapSpan i n rm) := by
  induction n generalizing i rm with
  | zero => exact h
  | succ n ih => exact ih (unmapCell_route_laws h)

theorem rebase_route_laws (base : Int) (h : RouteLaws rm) : RouteLaws (rebase base rm) := by
  have entry (k : Nat) : entryAt (rebase base rm) k = { entryAt rm k with references := 0 } :=
    tableGet_tableMap (f := withoutReferences) h.table.2.1 rfl
  refine ⟨rebase_table_law base h.table, fun k => by rw [entry]; rfl, fun _ _ named => (by cases named), fun k hk => ?_⟩
  rw [entry] at hk ⊢
  exact h.integrity.2 k hk

/-- An entry that no cell names is written or cleared: it has no references, and names a defined envelope when it is defined. -/
theorem withEntry_route_laws {x : RouteEntry} (h : RouteLaws rm) (free : (entryAt rm e).references = 0)
    (bound : x ≠ {} → e < 512) (references : x.references = 0)
    (envelope : x.defined = true → (envelopeAt rm x.envelope).defined = true) :
    RouteLaws { rm with entries := tableSet {} rm.entries e x } := by
  obtain ⟨⟨cells, entries, envelopes, cellKeys, entryKeys, envelopeKeys⟩, reference, named, defines⟩ := h
  have entry (k : Nat) : entryAt { rm with entries := tableSet {} rm.entries e x } k = if k = e then x else entryAt rm k :=
    tableGet_tableSet entries
  have unnamed : cellsNaming rm e = 0 := (reference e).symm.trans free
  refine ⟨⟨cells, tableWf_tableSet entries, envelopes, cellKeys, keys_tableSet entryKeys bound, envelopeKeys⟩, fun k => ?_,
    fun i k cell => ?_, fun k hk => ?_⟩
  · rw [entry]
    split_ifs with eq
    · subst eq
      exact references.trans unnamed.symm
    · exact reference k
  · rw [entry]
    have listed : (i, some k) ∈ rm.cells := by
      have ne : tableGet none rm.cells i ≠ none := fun eq => by
        rw [cellAt, eq] at cell
        cases cell
      have mem := mem_of_tableGet_ne ne
      rwa [show tableGet none rm.cells i = some k from cell] at mem
    split_ifs with eq
    · subst eq
      have := List.countP_eq_zero.mp unnamed _ listed
      simp at this
    · exact named i k cell
  · rw [entry] at hk ⊢
    split_ifs at hk ⊢ with eq
    · exact envelope hk
    · exact defines k hk

theorem withEnvelope_table_law {x : Envelope} (h : tableLaw rm) (bound : x ≠ {} → e < 64) :
    tableLaw { rm with envelopes := tableSet {} rm.envelopes e x } := by
  obtain ⟨cells, entries, envelopes, cellKeys, entryKeys, envelopeKeys⟩ := h
  exact ⟨cells, entries, tableWf_tableSet envelopes, cellKeys, entryKeys, keys_tableSet envelopeKeys bound⟩

theorem envelopeAt_tableSet {x : Envelope} (h : tableLaw rm) (k : Nat) :
    envelopeAt { rm with envelopes := tableSet {} rm.envelopes e x } k = if k = e then x else envelopeAt rm k :=
  tableGet_tableSet h.2.2.1

/-- An envelope is installed, or one that no entry names is erased. -/
theorem withEnvelope_route_laws {x : Envelope} (h : RouteLaws rm) (bound : x ≠ {} → e < 64)
    (named : ∀ k, (entryAt rm k).defined = true → (entryAt rm k).envelope = e → x.defined = true) :
    RouteLaws { rm with envelopes := tableSet {} rm.envelopes e x } := by
  refine ⟨withEnvelope_table_law h.table bound, h.reference, h.integrity.1, fun k hk => ?_⟩
  show (envelopeAt _ (entryAt rm k).envelope).defined = true
  rw [envelopeAt_tableSet h.table]
  split_ifs with eq
  · exact named k hk eq
  · exact h.integrity.2 k hk

/-- No defined entry names an envelope for which `namingEntry` finds none. -/
theorem ne_of_namingEntry_eq_none {j k : Nat} (h : namingEntry rm j = none) (defined : (entryAt rm k).defined = true) :
    (entryAt rm k).envelope ≠ j := by
  intro eq
  have listed : entryAt rm k ≠ {} := fun e => by simp [e] at defined
  simp only [namingEntry, Option.map_eq_none_iff, List.find?_eq_none] at h
  have := h _ (mem_of_tableGet_ne listed)
  rw [show tableGet ({} : RouteEntry) rm.entries k = entryAt rm k from rfl] at this
  simp [defined, eq] at this

end

/-! ### The laws over a request -/

theorem badEntryField_index {p : List Byte} (h : badEntryField p = none) : fieldU 0 2 p ≤ 511 := by
  simpa using (firstBad_eq_none_iff _).mp h (1, decide (fieldU 0 2 p ≤ 511)) (by simp)

theorem targetOf_envelope {k id j : Nat} (h : targetOf k id = .inl (.envelope j)) : j ≤ 63 := by
  unfold targetOf at h
  split at h
  · split_ifs at h with le
    cases h
    exact le
  · split at h <;> cases h
  · cases h

theorem spanGood_iff {first count : Nat} : spanGood first count = true ↔ first ≤ 4095 ∧ first + count ≤ 4096 := by
  rw [spanGood, Bool.and_eq_true, decide_eq_true_eq, decide_eq_true_eq]
  exact Iff.rfl

theorem Carried.staged_target_law {p : List Byte} {s t : State} (c : Carried p s t) (h : stagedTargetLaw s.mgmt) :
    stagedTargetLaw t.mgmt := by
  cases c with
  | stageOpened target found _ _ =>
    intro st j e eq
    cases e
    rw [show target = .envelope j from eq] at found
    exact targetOf_envelope found
  | partFilled st staged _ _ =>
    intro st' j e eq
    cases e
    exact h st j staged eq
  | committed st _ _ _ _ => exact fun _ _ e => by cases e
  | stageDiscarded => exact fun _ _ e => by cases e
  | started _ =>
    unfold startLinkLossIfDown startLinkLoss startHeadLoss
    split_ifs <;> exact h
  | stopped _ =>
    have drained : (drain s).mgmt = s.mgmt := by simp [drain]
    rwa [drained]
  | _ => exact h

theorem installTarget_route_laws {s : State} {st : Staging} (h : RouteLaws s.route)
    (bound : ∀ j, st.target = .envelope j → j ≤ 63) : RouteLaws (installTarget st s).route := by
  unfold installTarget
  split
  · rename_i j target
    exact withEnvelope_route_laws h (fun _ => Nat.lt_succ_of_le (bound j target)) fun _ _ _ => rfl
  · exact h

theorem Carried.route_laws {p : List Byte} {s t : State} (c : Carried p s t) (h : RouteLaws s.route)
    (staged : stagedTargetLaw s.mgmt) : RouteLaws t.route := by
  cases c with
  | committed st open' _ _ _ => exact installTarget_route_laws h fun j => staged st j open'
  | based _ => exact rebase_route_laws _ h
  | entryWritten x good free envelope defined named fresh =>
    exact withEntry_route_laws h free (fun _ => Nat.lt_succ_of_le (badEntryField_index good)) fresh fun _ => named ▸ envelope
  | entryCleared _ free => exact withEntry_route_laws h free (fun differs => absurd rfl differs) rfl fun defined => by cases defined
  | envelopeErased _ _ unnamed =>
    exact withEnvelope_route_laws h (fun differs => absurd rfl differs) fun k defined eq =>
      absurd eq (ne_of_namingEntry_eq_none unnamed defined)
  | mapped span _ entries =>
    exact mapSpan_route_laws h (by simpa using (spanGood_iff.mp span).2) fun e he => (entries e he).2
  | unmapped _ _ => exact unmapSpan_route_laws h
  | markerAdded _ _ _ => exact h.congr rfl rfl rfl
  | markerRemoved _ => exact h.congr rfl rfl rfl
  | armed _ _ => exact h.congr rfl rfl rfl
  | started _ => exact (startLossTimers_configured (Configured.refl s).same).route.route_laws h
  | stopped _ => exact drain_configured.route.route_laws h
  | _ => exact h

theorem stagedTargetLaw_of_staging {m m' : Management} (h : stagedTargetLaw m) (same : m'.staging = m.staging) :
    stagedTargetLaw m' := by
  unfold stagedTargetLaw
  rwa [same]

/-- Settles O58: a cell mapped or unmapped moves one reference, and nothing named is cleared. -/
theorem routeLawsKept : Obligations.RouteLawsKept := by
  intro s t table reference integrity staged hstep
  have kept : RouteLaws t.route ∧ stagedTargetLaw t.mgmt := by
    refine step_keeps (fun s => RouteLaws s.route ∧ stagedTargetLaw s.mgmt) (fun _ _ h => h)
      (fun c u v ⟨laws, staged⟩ hexec => ?_) ⟨⟨table, reference, integrity⟩, staged⟩ hstep
    cases exec_act hexec with
    | configured m => exact ⟨m.route.route_laws laws, stagedTargetLaw_of_staging staged m.staging⟩
    | power lines _ =>
      refine ⟨⟨⟨?_, ?_, ?_, ?_, ?_, ?_⟩, fun _ => rfl, fun _ _ named => ?_, fun _ defined => ?_⟩, fun _ _ e => ?_⟩
      case refine_7 => cases named
      case refine_8 => cases defined
      case refine_9 => cases e
      all_goals first
        | exact ⟨List.Pairwise.nil, fun _ he => absurd he List.not_mem_nil⟩
        | exact fun _ he => absurd he List.not_mem_nil
    | taken k r rest _ =>
      have begun : stagedTargetLaw (beginTaking rest u).mgmt := staged
      have body := requestBody_carried k r.payload (beginTaking rest u)
      exact ⟨body.route_laws laws begun, stagedTargetLaw_of_staging (body.staged_target_law begun) rfl⟩
  exact ⟨kept.1.table, kept.1.reference, kept.1.integrity, kept.2⟩

end Sys2Proof.Machine

/-! The marker list (R97), the envelope library (R90) and the ranges of the run parameters and of the odometry settings (R5, R7,
R80) over every command. -/

namespace Sys2Proof.Machine

/-! ### The marker list -/

theorem markerLaw_iff (rm : RouteMap) :
    markerLaw rm ↔ (rm.markers.map fun m => (m.position, m.label)).length ≤ 256
      ∧ (rm.markers.map fun m => (m.position, m.label)).Pairwise fun a b => a.1 + 10000 ≤ b.1 := by
  rw [markerLaw, List.length_map, List.pairwise_map]

theorem SameMap.marker_law {rm rm' : RouteMap} (m : SameMap rm rm') (h : markerLaw rm) : markerLaw rm' := by
  rw [markerLaw_iff] at *
  rwa [m.places]

theorem nearestMarker_eq_none {x : Int} {higher : Bool} {l : List Marker} (h : nearestMarker x higher l = none) : l = [] := by
  cases l with
  | nil => rfl
  | cons m rest =>
    unfold nearestMarker at h
    split at h
    · cases h
    · dsimp only at h
      split_ifs at h

/-- With no marker in conflict every one is at least 10,000 dmm away (R98). -/
theorem far_of_conflictingMarker_eq_none {position : Int} {l : List Marker} (h : conflictingMarker position l = none)
    {m : Marker} (hm : m ∈ l) : m.position + 10000 ≤ position ∨ position + 10000 ≤ m.position := by
  have far := List.filter_eq_nil_iff.mp (nearestMarker_eq_none h) m hm
  rw [decide_eq_true_eq, markerSpacing] at far
  omega

theorem mem_insertMarker {m n : Marker} {l : List Marker} (h : n ∈ insertMarker m l) : n = m ∨ n ∈ l := by
  induction l with
  | nil => exact .inl (List.mem_singleton.mp h)
  | cons a rest ih =>
    unfold insertMarker at h
    split_ifs at h
    · exact List.mem_cons.mp h
    · rcases List.mem_cons.mp h with rfl | h
      · exact .inr (List.mem_cons_self ..)
      · exact (ih h).imp_right (List.mem_cons_of_mem _)

theorem length_insertMarker (m : Marker) (l : List Marker) : (insertMarker m l).length = l.length + 1 := by
  induction l with
  | nil => rfl
  | cons a rest ih =>
    unfold insertMarker
    split <;> simp [ih]

theorem insertMarker_spaced {m : Marker} {l : List Marker} (h : l.Pairwise fun m n => m.position + 10000 ≤ n.position)
    (far : ∀ n ∈ l, n.position + 10000 ≤ m.position ∨ m.position + 10000 ≤ n.position) :
    (insertMarker m l).Pairwise fun m n => m.position + 10000 ≤ n.position := by
  induction l with
  | nil => simp [insertMarker]
  | cons a rest ih =>
    obtain ⟨above, spaced⟩ := List.pairwise_cons.mp h
    have place := far a (List.mem_cons_self ..)
    unfold insertMarker
    split_ifs with lt
    · refine List.pairwise_cons.mpr ⟨fun n hn => ?_, h⟩
      rcases List.mem_cons.mp hn with rfl | hn
      · omega
      · have := above n hn
        omega
    · refine List.pairwise_cons.mpr ⟨fun n hn => ?_, ih spaced fun n hn => far n (List.mem_cons_of_mem _ hn)⟩
      rcases mem_insertMarker hn with rfl | hn
      · omega
      · exact above n hn

/-! ### The library -/

theorem badValueOf_eq_none {l : List (Nat × PartData)} (h : badValueOf l = none) : ∀ e ∈ l, badItem e.1 e.2 = none := by
  induction l with
  | nil => exact fun _ he => absurd he List.not_mem_nil
  | cons a rest ih =>
    unfold badValueOf at h
    split at h
    · cases h
    · exact List.forall_mem_cons.mpr ⟨‹_›, ih h⟩

/-- A complete record holds as many parts as its target has. -/
theorem length_parts_of_complete {st : Staging} (law : lawfulParts st) (complete : missingPart st = none) :
    st.parts.length = partCount st.target := by
  obtain ⟨sorted, shapes⟩ := law
  have same : (st.parts.map Prod.fst).Perm (List.range (partCount st.target)) := by
    refine (List.perm_ext_iff_of_nodup ?_ List.nodup_range).mpr fun k => ⟨fun hk => ?_, fun hk => ?_⟩
    · exact (List.pairwise_map.mpr sorted).imp fun lt => (Nat.ne_of_lt lt)
    · obtain ⟨e, he, rfl⟩ := List.mem_map.mp hk
      exact List.mem_range.mpr (shapes e he).1
    · have filled := List.find?_eq_none.mp complete k hk
      simp only [partAt, Option.isNone_map, Option.isNone_iff_eq_none, List.find?_eq_none, not_forall] at filled
      obtain ⟨e, he, eq⟩ := filled
      exact List.mem_map.mpr ⟨e, he, by simpa using eq⟩
  simpa using same.length_eq

theorem length_stagedLimits {j : Nat} {l : List (Nat × PartData)} (shapes : ∀ e ∈ l, partShape (.envelope j) e) :
    (stagedLimits l).length = 32 * l.length := by
  induction l with
  | nil => rfl
  | cons a rest ih =>
    obtain ⟨k, d⟩ := a
    obtain ⟨shape, others⟩ := List.forall_mem_cons.mp shapes
    cases d with
    | limits centre limits =>
      have := ih others
      have size : limits.length = 32 := shape.2.1
      simp only [stagedLimits, List.length_append, List.length_cons]
      omega
    | knots knots floor => exact shape.2.elim

theorem mem_stagedLimits {l : List (Nat × PartData)} {x : Nat} (h : x ∈ stagedLimits l) :
    ∃ k centre limits, (k, PartData.limits centre limits) ∈ l ∧ x ∈ limits := by
  induction l with
  | nil => exact absurd h List.not_mem_nil
  | cons a rest ih =>
    obtain ⟨k, d⟩ := a
    cases d with
    | limits centre limits =>
      rcases List.mem_append.mp h with h | h
      · exact ⟨k, centre, limits, List.mem_cons_self .., h⟩
      · obtain ⟨k', c, ls, mem, hx⟩ := ih h
        exact ⟨k', c, ls, List.mem_cons_of_mem _ mem, hx⟩
    | knots knots floor =>
      obtain ⟨k', c, ls, mem, hx⟩ := ih h
      exact ⟨k', c, ls, List.mem_cons_of_mem _ mem, hx⟩

theorem stagedCentre_of_parts (l : List (Nat × PartData)) :
    stagedCentre l = 0 ∨ ∃ k limits, (k, PartData.limits (some (stagedCentre l)) limits) ∈ l := by
  induction l with
  | nil => exact .inl rfl
  | cons a rest ih =>
    obtain ⟨k, d⟩ := a
    cases d with
    | limits centre limits =>
      cases centre with
      | some c => exact .inr ⟨k, limits, List.mem_cons_self ..⟩
      | none => exact ih.imp_right fun ⟨k', ls, mem⟩ => ⟨k', ls, List.mem_cons_of_mem _ mem⟩
    | knots knots floor => exact ih.imp_right fun ⟨k', ls, mem⟩ => ⟨k', ls, List.mem_cons_of_mem _ mem⟩

/-- A limits part that holds nothing bad is in the ranges of R90. -/
theorem limits_in_range {k : Nat} {centre : Option Nat} {limits : List Nat} (h : badItem k (.limits centre limits) = none) :
    centre.getD 0 ≤ 60000 ∧ ∀ l ∈ limits, l ≤ 200000 := by
  unfold badItem at h
  dsimp only at h
  split_ifs at h with high
  simp only [Option.map_eq_none_iff, List.findIdx?_eq_none_iff] at h
  exact ⟨Nat.le_of_not_lt high, fun l hl => Nat.le_of_not_lt (of_decide_eq_false (h l hl))⟩

/-- What a commit installs of an envelope is in range (R90, R176). -/
theorem stagedEnvelope_in_range {st : Staging} {j : Nat} (target : st.target = .envelope j) (law : lawfulParts st)
    (complete : missingPart st = none) (good : badValueOf st.parts = none) :
    envelopeInRange { defined := true, centreHeight := stagedCentre st.parts, limits := stagedLimits st.parts } := by
  have size := length_parts_of_complete law complete
  have inRange := badValueOf_eq_none good
  rw [target] at size
  refine ⟨?_, ?_, fun l hl => ?_⟩
  · rcases stagedCentre_of_parts st.parts with zero | ⟨k, limits, mem⟩
    · show stagedCentre st.parts ≤ 60000
      omega
    · exact (limits_in_range (inRange _ mem)).1
  · show (stagedLimits st.parts).length = 128
    rw [length_stagedLimits fun e he => target ▸ law.2 e he, size]
    rfl
  · obtain ⟨k, centre, limits, mem, hx⟩ := mem_stagedLimits hl
    exact (limits_in_range (inRange _ mem)).2 l hx

theorem defaultEnvelope_in_range : envelopeInRange {} :=
  ⟨Nat.zero_le _, List.length_replicate, fun _ hl => (List.eq_of_mem_replicate hl).trans_le (Nat.zero_le _)⟩

theorem withEnvelope_library_law {rm : RouteMap} {e : Nat} {x : Envelope} (h : libraryLaw rm) (table : tableLaw rm)
    (good : envelopeInRange x) : libraryLaw { rm with envelopes := tableSet {} rm.envelopes e x } := fun j => by
  rw [envelopeAt_tableSet table]
  split_ifs
  exacts [good, h j]

theorem libraryLaw_of_envelopes {rm rm' : RouteMap} (h : libraryLaw rm) (same : rm'.envelopes = rm.envelopes) :
    libraryLaw rm' := fun j => by
  rw [envelopeAt, same]
  exact h j

/-! ### The ranges of the settings -/

theorem carriedParams_in_range {p : List Byte} (good : badParamField p = none)
    (lengths : (carriedParams p).bogieCentres ≤ (carriedParams p).vehicleLength)
    (marks : watermarksOrdered (carriedParams p) = true) : paramsInRange (carriedParams p) := by
  have fields := (firstBad_eq_none_iff _).mp good
  generalize carriedParams p = x at *
  simp only [List.forall_mem_cons, inRange_iff] at fields
  obtain ⟨-, origin, pitch, lag, timeout, centre, guard, bogie, vehicle, depth, hold, high, panic, hysteresis, head, link, -⟩ :=
    fields
  simp only [watermarksOrdered, Bool.and_eq_true, decide_eq_true_eq] at marks
  unfold paramsInRange
  omega

theorem carriedSettings_in_range {p : List Byte} (good : badOdometryField p = none) :
    settingsInRange (carriedSettings p) := by
  have fields := (firstBad_eq_none_iff _).mp good
  generalize carriedSettings p = x at *
  simp only [List.forall_mem_cons, inRange_iff, Bool.or_eq_true, beq_iff_eq] at fields
  obtain ⟨a, b, interval, weight, slip, loss, slew, window, tolerance, -, baseline, pitch, -⟩ := fields
  unfold settingsInRange scaleInRange
  omega

theorem Rescaled.in_range {x y : OdoSettings} (m : Rescaled x y) (h : settingsInRange x) : settingsInRange y := by
  obtain ⟨a, b, rfl, ha, hb⟩ := m
  obtain ⟨scaleA, scaleB, rest⟩ := h
  exact ⟨ha scaleA, hb scaleB, rest⟩

/-! ### The laws over every command -/

/-- The tables and the settings in range. -/
structure InRange (s : State) : Prop where
  markers : markerLaw s.route
  library : libraryLaw s.route
  table : tableLaw s.route
  staging : stagingLaw s.mgmt
  target : stagedTargetLaw s.mgmt
  params : paramsInRange s.run.params
  settings : settingsInRange s.odo.settings

theorem Configured.in_range {s t : State} (m : Configured s t) (h : InRange s) : InRange t where
  markers := m.route.marker_law h.markers
  library := libraryLaw_of_envelopes h.library m.route.envelopes
  table := tableLaw_congr h.table m.route.cells m.route.entries m.route.envelopes
  staging := by
    unfold stagingLaw
    rw [m.staging]
    exact h.staging
  target := stagedTargetLaw_of_staging h.target m.staging
  params := m.params ▸ h.params
  settings := m.settings.in_range h.settings

/-- A request that writes only the Route Map. -/
theorem InRange.withRoute {s : State} {rm : RouteMap} (h : InRange s) (markers : markerLaw rm) (library : libraryLaw rm)
    (table : tableLaw rm) : InRange (s.withRoute rm) :=
  ⟨markers, library, table, h.staging, h.target, h.params, h.settings⟩

/-- A change of none of what is kept in range. -/
theorem InRange.same {s t : State} (h : InRange s) (route : t.route = s.route := by rfl) (mgmt : t.mgmt = s.mgmt := by rfl)
    (params : t.run.params = s.run.params := by rfl) (settings : t.odo.settings = s.odo.settings := by rfl) : InRange t := by
  obtain ⟨markers, library, table, staging, target, inParams, inSettings⟩ := h
  constructor
  · rwa [route]
  · rwa [route]
  · rwa [route]
  · rwa [mgmt]
  · rwa [mgmt]
  · rwa [params]
  · rwa [settings]

theorem Carried.in_range {p : List Byte} {s t : State} (c : Carried p s t) (h : InRange s) : InRange t := by
  have staging := c.staging_law h.staging
  have target := c.staged_target_law h.target
  have directory {rm : RouteMap} (kept : SameDirectory s.route rm) (table : tableLaw rm) : InRange (s.withRoute rm) :=
    h.withRoute (by unfold markerLaw; rw [kept.markers]; exact h.markers) (libraryLaw_of_envelopes h.library kept.envelopes) table
  have withEntry {x : RouteEntry} {e : Nat} (bound : x ≠ {} → e < 512) :
      InRange (s.withRoute { s.route with entries := tableSet {} s.route.entries e x }) := by
    obtain ⟨cells, entries, envelopes, cellKeys, entryKeys, envelopeKeys⟩ := h.table
    exact h.withRoute h.markers h.library
      ⟨cells, tableWf_tableSet entries, envelopes, cellKeys, keys_tableSet entryKeys bound, envelopeKeys⟩
  cases c with
  | nothing => exact h
  | time => exact h.same
  | stageOpened _ _ _ _ => exact ⟨h.markers, h.library, h.table, staging, target, h.params, h.settings⟩
  | partFilled _ _ _ _ => exact ⟨h.markers, h.library, h.table, staging, target, h.params, h.settings⟩
  | committed st staged complete good _ =>
    have installed : InRange (installTarget st s) := by
      unfold installTarget
      split
      · rename_i j named
        exact h.withRoute h.markers
          (withEnvelope_library_law h.library h.table (stagedEnvelope_in_range named (h.staging st staged) complete good))
          (withEnvelope_table_law h.table fun _ => Nat.lt_succ_of_le (h.target st j staged named))
      · exact h.same
    exact ⟨installed.markers, installed.library, installed.table, staging, target, installed.params, installed.settings⟩
  | stageDiscarded => exact ⟨h.markers, h.library, h.table, staging, target, h.params, h.settings⟩
  | headConfigured _ _ _ _ _ => exact h.same
  | masked _ _ => exact h.same
  | odometrySet _ good =>
    exact ⟨h.markers, h.library, h.table, h.staging, h.target, h.params, carriedSettings_in_range good⟩
  | based _ =>
    exact h.withRoute h.markers (libraryLaw_of_envelopes h.library rfl) (rebase_table_law _ h.table)
  | entryWritten x good _ _ _ _ _ => exact withEntry fun _ => Nat.lt_succ_of_le (badEntryField_index good)
  | entryCleared _ _ => exact withEntry fun differs => absurd rfl differs
  | envelopeErased _ _ _ =>
    exact h.withRoute h.markers (withEnvelope_library_law h.library h.table defaultEnvelope_in_range)
      (withEnvelope_table_law h.table fun differs => absurd rfl differs)
  | mapped span _ entries =>
    exact directory (mapSpan_sameDirectory _ _ _)
      (mapSpan_table_law h.table (by simpa using (spanGood_iff.mp span).2) fun e he => Nat.lt_succ_of_le (entries e he).1)
  | unmapped _ _ => exact directory (unmapSpan_sameDirectory _ _ _) (unmapSpan_table_law h.table)
  | markerAdded _ room clear =>
    refine h.withRoute ⟨?_, ?_⟩ (libraryLaw_of_envelopes h.library rfl) (tableLaw_congr h.table rfl rfl rfl)
    · show (insertMarker _ s.route.markers).length ≤ 256
      rw [length_insertMarker]
      exact room
    · exact insertMarker_spaced h.markers.2 fun n hn => far_of_conflictingMarker_eq_none clear hn
  | markerRemoved _ =>
    exact h.withRoute ⟨(List.length_filter_le _ _).trans h.markers.1, h.markers.2.filter _⟩
      (libraryLaw_of_envelopes h.library rfl) (tableLaw_congr h.table rfl rfl rfl)
  | paramsSet _ good lengths marks =>
    exact ⟨h.markers, h.library, h.table, h.staging, h.target, carriedParams_in_range good lengths marks, h.settings⟩
  | armed _ _ => exact prepareRun_configured.in_range h
  | started _ => exact (startLossTimers_configured (Configured.refl s).same).in_range h
  | stopped _ => exact drain_configured.in_range h
  | runReset _ => exact resetRunEffect_configured.in_range h
  | floorSet _ => exact h.same
  | hardAcknowledged => exact h.same
  | softAcknowledged => exact h.same

theorem reset_in_range (lines : PowerLines) (s : State) : InRange (powerOnWith lines s) where
  markers := ⟨Nat.zero_le _, List.Pairwise.nil⟩
  library := fun _ => defaultEnvelope_in_range
  table := by
    refine ⟨⟨List.Pairwise.nil, ?_⟩, ⟨List.Pairwise.nil, ?_⟩, ⟨List.Pairwise.nil, ?_⟩, ?_, ?_, ?_⟩
    all_goals exact fun _ he => absurd he List.not_mem_nil
  staging := fun _ e => by cases e
  target := fun _ _ e => by cases e
  params := by
    show paramsInRange {}
    unfold paramsInRange
    decide
  settings := by
    show settingsInRange {}
    unfold settingsInRange scaleInRange
    decide

/-- Settles O59: each request checks what it installs, and every other command leaves the tables and settings in range. -/
theorem tablesStayInRange : Obligations.TablesStayInRange := by
  intro s t markers library table staging target params settings hstep
  have kept : InRange t := by
    refine step_keeps InRange (fun _ _ h => h.same) (fun c u v h hexec => ?_)
      ⟨markers, library, table, staging, target, params, settings⟩ hstep
    cases exec_act hexec with
    | configured m => exact m.in_range h
    | power lines _ => exact reset_in_range lines u
    | taken k r rest _ =>
      have begun : InRange (beginTaking rest u) :=
        ⟨h.markers, h.library, h.table, h.staging, h.target, h.params, h.settings⟩
      have body := (requestBody_carried k r.payload (beginTaking rest u)).in_range begun
      exact ⟨body.markers, body.library, body.table, body.staging, body.target, body.params, body.settings⟩
  obtain ⟨a, b, c, d, e, f, g⟩ := kept
  exact ⟨a, b, c, d, e, f, g⟩

end Sys2Proof.Machine

/-! How a property of the run state, the Odometry Unit, the Comparator and the Corrector becomes one of every command: the few
places where a command moves one of them, each named once. -/

namespace Sys2Proof.Machine

/-- What the properties of `EventInvariant` see of two states is the same. -/
structure SameUnits (s t : State) : Prop where
  runState : t.run.runState = s.run.runState
  params : t.run.params = s.run.params
  odo : t.odo = s.odo
  comparator : t.comparator = s.comparator
  correctors : t.correctors = s.correctors

/-- What a property must bear to hold over every command: what closures, offers and slices passed on settle, the Odometry Unit's
events, the release of the alert line, the end of a run, the passing of time, and the requests. -/
structure EventInvariant (P : State → Prop) : Prop where
  same : ∀ {s t : State}, SameUnits s t → P s → P t
  settled : ∀ {s t : State}, Settled s t → P s → P t
  encoder : ∀ {s : State} (w : Wheel) (p1 p2 : Bool), P s → P (s.withOdo (encoderAt w p1 p2 s.odo))
  interval : ∀ {s : State}, P s → P (intervalExpires s)
  marker : ∀ {s : State}, P s → P (detectMarker s)
  released : ∀ {s : State}, P s → P (s.withComparator (releaseAlert s.comparator))
  ended : ∀ {s : State}, s.run.runState = .draining → P s →
    P (((s.withRun { s.run with runState := .ended }).withOdo (handOver s.odo)).withFaults { s.faults with linkLoss := none })
  ticked : ∀ {s : State}, P s → P (advanceTime s)
  carried : ∀ {p : List Byte} {s t : State}, Carried p s t → P s → P t
  powered : ∀ (lines : PowerLines) (s : State), P (powerOnWith lines s)

namespace EventInvariant
variable {P : State → Prop} {s : State}

/-- A change that the property does not see. -/
theorem quiet {t : State} (K : EventInvariant P) (h : P s) (units : SameUnits s t := by exact ⟨rfl, rfl, rfl, rfl, rfl⟩) : P t :=
  K.same units h

theorem closed (K : EventInvariant P) (h : P s) : P (endEvent s) := K.settled (endEvent_settled (.refl s)) h

theorem ported (K : EventInvariant P) {p : HeadId} {port : Port} (h : P s) : P (s.withPort p port) := K.quiet h

theorem raised (K : EventInvariant P) {source : Source} {detail : EventDetail} (h : P s) : P (raiseSoft source detail s) :=
  K.settled (raiseSoft_settled (.refl s)) h

theorem left (K : EventInvariant P) (before : PortState) (h : P s) : P (leftFrom before s) := by
  have started : P (startHeadLoss s) := by
    unfold startHeadLoss
    split_ifs
    exacts [h, h, K.quiet h]
  unfold leftFrom afterLeaving
  split_ifs
  · exact K.settled (decideHalt_settled (progressTest_settled (.refl _))) started
  · exact h
  · exact h

theorem passed (K : EventInvariant P) {p : HeadId} {f : SliceFields} {payload : List Byte} (h : P s) :
    P (passOn p f payload s) := by
  unfold passOn
  split
  · exact K.settled (deliverSlice_settled (.refl _)) (K.ported h)
  · exact h

theorem sliced (K : EventInvariant P) {p : HeadId} {payload : List Byte} (h : P s) : P (sliceArrives p payload s) := by
  have synchronised (f : SliceFields) : P (synchronise p f s) := by
    have entered {v : State} (hv : P v) : P (afterEntering v) := by
      unfold afterEntering
      split
      exacts [K.quiet hv, hv]
    exact entered (K.ported h)
  have sequenced (f : SliceFields) : P (sequenceSlice p f s) := by
    have gap : P (sliceGap p f s) := by
      unfold sliceGap
      dsimp only
      split_ifs
      exacts [h, K.ported h, K.raised (K.ported h)]
    exact K.ported gap
  have taken (f : SliceFields) : P (takeSlice p f payload s) := by
    have entered : P (if f.start = 0 then passOn p f payload (synchronise p f s) else countUnsynced p s) := by
      split
      exacts [K.passed (synchronised f), K.ported h]
    unfold takeSlice
    split
    exacts [entered, entered, K.passed (sequenced f), K.ported h, h, h]
  unfold sliceArrives
  dsimp only
  split_ifs
  exacts [h, K.ported h, taken _, K.raised (K.ported h)]

theorem statusArrived (K : EventInvariant P) {p : HeadId} {payload : List Byte} (h : P s) :
    P (headStatusArrives p payload s) := by
  have fault (code : Nat) (temperature : Int) : P (statusFault p code temperature s) := by
    unfold statusFault
    dsimp only
    split
    exacts [K.ported h, K.left _ (K.raised (K.ported h))]
  have warn (code : Nat) (temperature : Int) : P (statusWarn p code temperature s) := by
    unfold statusWarn
    dsimp only
    split
    exacts [K.ported h, K.raised (K.ported h)]
  unfold headStatusArrives
  split_ifs
  · exact h
  · exact K.ported h
  · split
    exacts [K.ported h, fault _ _, warn _ _, K.ported h]

theorem wentDown (K : EventInvariant P) (h : P s) : P (linkDown s) := by
  have reoffered (r : Option Record) {v : State} (hv : P v) : P (reofferRunEnd r v) := by
    unfold reofferRunEnd
    split
    · split_ifs
      exacts [K.settled (offerRunEnd_settled (.refl _)) hv, hv]
    · exact hv
  have abandoned {v : State} (hv : P v) : P (abandon v) := by
    cases e : sendingRecord v.queue with
    | none => rw [abandon_of_idle e]; exact K.quiet hv
    | some r =>
      have left : P (recordLeft { v.queue.counters with txAbandoned := inc32 v.queue.counters.txAbandoned } v) := K.quiet hv
      rw [abandon_of_sending e]
      exact K.quiet (reoffered (some r) left)
  have down : P (s.withQueue { s.queue with linkUp := false }) := K.quiet h
  have lost := abandoned down
  unfold linkDown startLinkLoss
  split
  exacts [K.quiet lost, lost]

theorem completed (K : EventInvariant P) (h : P s) : P (completeTransmission s) := by
  have ended (r : Record) {v : State} (hv : P v) : P (completeRunEnd r v) := by
    unfold completeRunEnd
    split
    · split_ifs with ends
      exacts [K.ended ends.1 hv, hv]
    · exact hv
  cases e : sendingRecord s.queue with
  | none => rw [completeTransmission_of_idle e]; exact h
  | some r =>
    have left : P (recordLeft { s.queue.counters with transmitted := inc32 s.queue.counters.transmitted } s) := K.quiet h
    rw [completeTransmission_of_sending e]
    exact K.quiet (ended r left)

theorem taking (K : EventInvariant P) (isKind : Nat → Bool) (k : Nat) (h : P s) :
    P (takeRequest isKind (requestBody k) s) := by
  rcases takeRequest_taken isKind k s with e | ⟨r, rest, -, e⟩ <;> rw [e]
  · exact h
  · have begun : P (beginTaking rest s) := K.quiet h
    exact K.quiet (K.carried (requestBody_carried k r.payload (beginTaking rest s)) begun)

theorem inbound (K : EventInvariant P) {f : Management → Management} (h : P s) : P (receiveInbound f s) :=
  K.quiet h ⟨by simp, by simp, by simp, by simp, by simp⟩

/-- A property that bears what may happen is kept by every command. -/
theorem exec_keeps (K : EventInvariant P) {c : Instr} {t : State} (h : P s) (hexec : exec c s = .next t) : P t := by
  have due (b : Bool) {v : State} (hv : P v) : P (if b then endEvent v else s) := by
    split
    exacts [K.closed hv, h]
  cases exec_course hexec with
  | taking k _ _ _ => exact K.taking _ k h
  | unknown _ => exact K.taking _ 0 h
  | powerOn lines _ => exact K.powered lines s
  | resetInput _ => exact K.powered _ s
  | headCarrierLoss p _ => exact K.closed (K.left _ (K.ported h))
  | headCarrierGain p _ => exact K.closed (K.ported h)
  | headFrameTooLong p _ =>
    unfold frameTooLong
    split_ifs
    exacts [K.closed (K.ported h), K.closed h]
  | headFrameDiscarded p kind payload crc _ =>
    apply K.closed
    unfold frameDiscarded
    split_ifs
    exacts [h, K.ported h, K.ported h, K.ported h, h]
  | slice p payload _ => exact K.closed (K.sliced h)
  | headStatus p payload _ => exact K.closed (K.statusArrived h)
  | silenceTimerExpiry p _ =>
    apply K.closed
    unfold silenceExpires
    dsimp only
    split
    exacts [K.left .streaming (K.raised (K.ported h)), h]
  | encoderTransition w p1 p2 _ => exact K.closed (K.encoder w p1 p2 h)
  | odometryIntervalExpiry _ => exact due _ (K.interval h)
  | markerDetection _ => exact K.closed (K.marker h)
  | closeTimerExpiry j _ =>
    rcases closeTimerExpires_cases j s with e | e <;> rw [e]
    · exact h
    · exact K.closed (K.settled (decideHalt_settled (closeAll_settled (.refl s))) h)
  | alertHoldExpiry _ => exact due _ (K.released h)
  | headLossTimerExpiry _ => exact due _ (K.settled (takeHardFault_settled (.refl _)) (K.quiet h))
  | linkLossTimerExpiry _ => exact due _ (K.settled (takeHardFault_settled (.refl _)) (K.quiet h))
  | trunkLinkDown _ => exact K.closed (K.wentDown h)
  | trunkLinkUp _ => exact K.closed (K.quiet h)
  | transmissionComplete _ => exact K.closed (K.completed h)
  | trunkFrameTooLong _ => exact K.closed (K.inbound h)
  | trunkFrameDiscarded kind payload crc _ => exact K.closed (K.inbound h)
  | request tag kind payload _ => exact K.closed (K.inbound h)
  | timebaseAdvance _ => exact K.closed (K.ticked h)

end EventInvariant

end Sys2Proof.Machine

/-! The law of chainage (R71) and the law of the correction (R69). -/

namespace Sys2Proof.Machine

/-- The two laws as they read the Odometry Unit, in a run direction, inside or outside a survey. -/
structure ChainLaws (d : Direction) (survey : Bool) (o : Odometry) : Prop where
  ahead : beyond d o.c o.h = false
  tolerance : o.settings.reversalTolerance < (o.h - o.c).natAbs → o.reversed = true
  level : o.c = o.h → o.reversed = false
  rest : survey = false → o.c = o.h
  window : o.r.natAbs ≤ o.settings.captureWindow
  still : survey = false → o.r = 0

/-- The two laws of a state. -/
def chainLawful (s : State) : Prop := ChainLaws s.run.params.direction (inSurvey s.run.runState) s.odo

theorem chainLawful_iff (s : State) : chainLawful s ↔ chainageLaw s ∧ correctionLaw s :=
  ⟨fun ⟨ahead, tolerance, level, rest, window, still⟩ => ⟨⟨ahead, tolerance, level, rest⟩, window, still⟩,
    fun ⟨⟨ahead, tolerance, level, rest⟩, window, still⟩ => ⟨ahead, tolerance, level, rest, window, still⟩⟩

/-- What the two laws read is the same. -/
structure SameChain (o o' : Odometry) : Prop where
  c : o'.c = o.c
  h : o'.h = o.h
  r : o'.r = o.r
  reversed : o'.reversed = o.reversed
  window : o'.settings.captureWindow = o.settings.captureWindow
  tolerance : o'.settings.reversalTolerance = o.settings.reversalTolerance

theorem SameChain.refl (o : Odometry) : SameChain o o := ⟨rfl, rfl, rfl, rfl, rfl, rfl⟩

theorem SameChain.trans {a b c : Odometry} (m : SameChain a b) (h : SameChain b c) : SameChain a c :=
  ⟨h.c.trans m.c, h.h.trans m.h, h.r.trans m.r, h.reversed.trans m.reversed, h.window.trans m.window,
    h.tolerance.trans m.tolerance⟩

section
variable {d : Direction} {survey survey' : Bool} {o o' : Odometry}

theorem ChainLaws.congr (h : ChainLaws d survey o) (same : SameChain o o' := by exact ⟨rfl, rfl, rfl, rfl, rfl, rfl⟩)
    (stays : survey' = false → survey = false := by exact id) : ChainLaws d survey' o' := by
  obtain ⟨ahead, tolerance, level, rest, window, still⟩ := h
  constructor
  · rwa [same.c, same.h]
  · rwa [same.c, same.h, same.tolerance, same.reversed]
  · rwa [same.c, same.h, same.reversed]
  · rw [same.c, same.h]
    exact rest ∘ stays
  · rwa [same.r, same.window]
  · rw [same.r]
    exact still ∘ stays

/-- After the hand-over C is H, nothing is reversed and no correction is left (R14). -/
theorem ChainLaws.of_level (level : o.c = o.h) (reversed : o.reversed = false) (still : o.r = 0) : ChainLaws d survey o := by
  refine ⟨?_, fun far => ?_, fun _ => reversed, fun _ => level, ?_, fun _ => still⟩
  · rw [level]
    cases d <;> simp [beyond]
  · rw [level, Int.sub_self] at far
    exact absurd far (Nat.not_lt_zero _)
  · rw [still]
    exact Nat.zero_le _

theorem ChainLaws.handOver : ChainLaws d survey (handOver o) := .of_level rfl rfl rfl

end

/-! ### Settled states -/

section
variable {s t u : State}

theorem Settled.chain_lawful (m : Settled s t) (h : chainLawful s) : chainLawful t := by
  unfold chainLawful
  rw [m.params]
  rcases m.run with on | ends
  · rw [on.odo, on.runState]
    exact h
  · rw [ends.odo]
    exact .handOver

/-- A command that neither moves the chainages nor leaves a survey. -/
theorem chainLawful_of_same (h : chainLawful s) (params : t.run.params = s.run.params := by rfl)
    (odo : SameChain s.odo t.odo := by exact ⟨rfl, rfl, rfl, rfl, rfl, rfl⟩)
    (survey : inSurvey t.run.runState = false → inSurvey s.run.runState = false := by exact id) : chainLawful t := by
  unfold chainLawful
  rw [params]
  exact h.congr odo survey

/-! ### The interval -/

theorem raiseSoft_sameChain (source : Source) (detail : EventDetail) (m : SameChain s.odo t.odo) :
    SameChain s.odo (raiseSoft source detail t).odo := by
  simpa using m

theorem judgeLossA_sameChain (m : SameChain s.odo t.odo) : SameChain s.odo (judgeLossA t).odo := by
  unfold judgeLossA
  dsimp only
  split
  · exact raiseSoft_sameChain _ _ (m.trans ⟨rfl, rfl, rfl, rfl, rfl, rfl⟩)
  · exact m

theorem judgeLossB_sameChain (m : SameChain s.odo t.odo) : SameChain s.odo (judgeLossB t).odo := by
  unfold judgeLossB
  dsimp only
  split
  · exact raiseSoft_sameChain _ _ (m.trans ⟨rfl, rfl, rfl, rfl, rfl, rfl⟩)
  · exact m

theorem restoreWheels_sameChain (nA nB dA dB : Int) (o : Odometry) : SameChain o (restoreWheels nA nB dA dB o) := by
  unfold restoreWheels
  split_ifs <;> exact ⟨rfl, rfl, rfl, rfl, rfl, rfl⟩

theorem filterSlip_sameChain {dA dB : Int} (m : SameChain s.odo t.odo) : SameChain s.odo (filterSlip dA dB t).odo := by
  have filtered (f : Nat) (mode : FilterMode) : SameChain s.odo { t.odo with slipFilter := f, filterMode := mode } :=
    m.trans ⟨rfl, rfl, rfl, rfl, rfl, rfl⟩
  unfold filterSlip
  dsimp only
  split
  · split
    · split
      exacts [raiseSoft_sameChain _ _ (filtered _ _), filtered _ t.odo.filterMode]
    · split
      exacts [filtered _ _, filtered _ t.odo.filterMode]
  · exact m

/-- Stages 5 and 6 never leave C beyond H, and the correction never grows (R69, R70). -/
theorem moveChainage_ahead (d : Direction) (step : Int) (o : Odometry) :
    beyond d (moveChainage d step o).c (moveChainage d step o).h = false := by
  unfold moveChainage
  dsimp only
  split_ifs with passed
  · cases d <;> simp [beyond]
  · simpa using passed

theorem moveChainage_r (d : Direction) (step : Int) (o : Odometry) : (moveChainage d step o).r.natAbs ≤ o.r.natAbs := by
  show (o.r - clampAbs o.settings.slewLimit o.r).natAbs ≤ _
  unfold clampAbs
  omega

/-- Stage 7 restores the law of chainage (R71). -/
theorem checkReversal_lawful (ahead : beyond s.run.params.direction s.odo.c s.odo.h = false)
    (window : s.odo.r.natAbs ≤ s.odo.settings.captureWindow) :
    ChainLaws s.run.params.direction true (checkReversal s).odo := by
  have behind_of_ne (ne : s.odo.c ≠ s.odo.h) : beyond s.run.params.direction s.odo.h s.odo.c = true := by
    cases e : s.run.params.direction <;> simp [e, beyond] at ahead ⊢ <;> omega
  unfold checkReversal
  dsimp only
  split_ifs with reversal level
  · simp only [Bool.and_eq_true, decide_eq_true_eq] at reversal
    refine ⟨by simpa using ahead, fun _ => by simp, fun level => ?_, nofun, by simpa using window, nofun⟩
    have := reversal.1.1
    rw [show s.odo.c = s.odo.h by simpa using level] at this
    cases e : s.run.params.direction <;> simp [e, beyond] at this
  · exact ⟨ahead, fun far => absurd far (by simp [level]), fun _ => rfl, nofun, window, nofun⟩
  · refine ⟨ahead, fun far => ?_, fun eq => absurd eq level, nofun, window, nofun⟩
    by_contra clear
    exact reversal (by simp [behind_of_ne level, far, clear])

@[simp] theorem missMarker_odo (s : State) (m : Marker) : (missMarker s m).odo = s.odo := by simp [missMarker]

@[simp] theorem scanMissed_odo (h0 : Int) (s : State) : (scanMissed h0 s).odo = s.odo := by
  unfold scanMissed
  generalize crossedMarkers s h0 = ms
  induction ms generalizing s with
  | nil => rfl
  | cons k rest ih => rw [List.foldl_cons, ih, missMarker_odo]

/-- The state after the wheels' travel and the judgement of loss, within stages 1 and 2. -/
def lossJudged (nA nB : Int) (s : State) : State :=
  judgeLossB (judgeLossA (s.withOdo (travelWheels nA nB (wheelTravel s.odo.a.remainder nA s.odo.settings.scaleA)
    (wheelTravel s.odo.b.remainder nB s.odo.settings.scaleB) s.odo)))

/-- The state after stage 3. -/
def slipFiltered (nA nB : Int) (s : State) : State :=
  filterSlip (wheelTravel s.odo.a.remainder nA s.odo.settings.scaleA) (wheelTravel s.odo.b.remainder nB s.odo.settings.scaleB)
    ((lossJudged nA nB s).withOdo (restoreWheels nA nB (wheelTravel s.odo.a.remainder nA s.odo.settings.scaleA)
      (wheelTravel s.odo.b.remainder nB s.odo.settings.scaleB) (lossJudged nA nB s).odo))

/-- The state after stage 6. -/
def chainageMoved (nA nB : Int) (s : State) : State :=
  (slipFiltered nA nB s).withOdo (moveChainage (slipFiltered nA nB s).run.params.direction
    (stepOf (wheelTravel s.odo.a.remainder nA s.odo.settings.scaleA) (wheelTravel s.odo.b.remainder nB s.odo.settings.scaleB)
      (slipFiltered nA nB s).odo)
    { (slipFiltered nA nB s).odo with mode := modeOf (slipFiltered nA nB s).odo })

/-- The nine stages by name. -/
theorem integrate_eq (nA nB : Int) (s : State) :
    integrate nA nB s = (scanMissed s.odo.h (checkReversal (chainageMoved nA nB s))).withOdo
      (triggerCamera (scanMissed s.odo.h (checkReversal (chainageMoved nA nB s))).run.params
        (scanMissed s.odo.h (checkReversal (chainageMoved nA nB s))).odo) := by
  unfold integrate chainageMoved slipFiltered lossJudged
  rfl

theorem slipFiltered_reported (nA nB : Int) (s : State) : Reported s (slipFiltered nA nB s) :=
  filterSlip_reported (withOdo_reported (judgeLossB_reported (judgeLossA_reported (withOdo_reported (.refl s)))))

theorem slipFiltered_sameChain (nA nB : Int) (s : State) : SameChain s.odo (slipFiltered nA nB s).odo := by
  have travelled (dA dB : Int) : SameChain s.odo (s.withOdo (travelWheels nA nB dA dB s.odo)).odo :=
    ⟨rfl, rfl, rfl, rfl, rfl, rfl⟩
  have judged : SameChain s.odo (lossJudged nA nB s).odo := judgeLossB_sameChain (judgeLossA_sameChain (travelled _ _))
  have restored (dA dB : Int) :
      SameChain s.odo ((lossJudged nA nB s).withOdo (restoreWheels nA nB dA dB (lossJudged nA nB s).odo)).odo :=
    judged.trans (restoreWheels_sameChain nA nB dA dB _)
  exact filterSlip_sameChain (restored _ _)

theorem triggerCamera_sameChain (p : RunParams) (o : Odometry) : SameChain o (triggerCamera p o) := ⟨rfl, rfl, rfl, rfl, rfl, rfl⟩

theorem integrate_lawful {nA nB : Int} (window : s.odo.r.natAbs ≤ s.odo.settings.captureWindow) :
    ChainLaws s.run.params.direction true (integrate nA nB s).odo := by
  have same := slipFiltered_sameChain nA nB s
  have moved : ChainLaws (chainageMoved nA nB s).run.params.direction true (checkReversal (chainageMoved nA nB s)).odo := by
    refine checkReversal_lawful (moveChainage_ahead _ _ _) ((moveChainage_r _ _ _).trans ?_)
    show (slipFiltered nA nB s).odo.r.natAbs ≤ (slipFiltered nA nB s).odo.settings.captureWindow
    rw [same.r, same.window]
    exact window
  have params : (chainageMoved nA nB s).run.params = s.run.params := (slipFiltered_reported nA nB s).params
  rw [params] at moved
  rw [integrate_eq]
  rw [State.withOdo_odo, scanMissed_odo]
  exact moved.congr (triggerCamera_sameChain _ _) id

theorem intervalExpires_chain_lawful (h : chainLawful s) : chainLawful (intervalExpires s) := by
  have taken : chainLawful (s.withOdo (takeCounts s.odo)) := chainLawful_of_same h
  have surveyed (on : inSurvey s.run.runState = true) (nA nB : Int) :
      chainLawful (integrate nA nB (s.withOdo (takeCounts s.odo))) := by
    have same := integrate_reported (nA := nA) (nB := nB) (withOdo_reported (o := takeCounts s.odo) (.refl s))
    unfold chainLawful
    rw [same.params, same.runState, on]
    exact integrate_lawful (s := s.withOdo (takeCounts s.odo)) taken.window
  unfold intervalExpires
  dsimp only
  split
  · exact surveyed (by simp [*, inSurvey]) _ _
  · exact surveyed (by simp [*, inSurvey]) _ _
  · exact chainLawful_of_same taken
  all_goals exact taken

/-! ### Detections -/

theorem clampAbs_natAbs_le (l : Nat) (x : Int) : (clampAbs l x).natAbs ≤ l := by
  unfold clampAbs
  omega

theorem recalibrate_sameChain (label delta : Nat) (s : State) : SameChain s.odo (recalibrate label delta s).odo := by
  unfold recalibrate
  dsimp only
  split_ifs <;> simp <;> exact ⟨rfl, rfl, rfl, rfl, rfl, rfl⟩

/-- A match sets the correction within the capture window (R74). -/
theorem matchMarker_lawful {k : Marker} {d : Direction} (h : ChainLaws d true s.odo) : ChainLaws d true (matchMarker k s).odo := by
  have judged (v : State) (hv : ChainLaws d true v.odo) : ChainLaws d true (judgeRecalibration k v).odo := by
    refine hv.congr ?_ id
    unfold judgeRecalibration
    split
    · exact .refl _
    · dsimp only
      split
      exacts [recalibrate_sameChain _ _ _, .refl _]
  have ended (v : State) (x : Option MarkerRef) (hv : ChainLaws d true v.odo) :
      ChainLaws d true (v.withOdo { v.odo with lastMatched := x, u := 0 }).odo :=
    hv.congr ⟨rfl, rfl, rfl, rfl, rfl, rfl⟩ id
  have matched : ChainLaws d true
      { s.odo with r := clampAbs s.odo.settings.captureWindow (s.odo.r + (k.position - s.odo.c)) } :=
    ⟨h.ahead, h.tolerance, h.level, nofun, clampAbs_natAbs_le _ _, nofun⟩
  exact ended _ _ (judged _ matched)

theorem detectMarker_chain_lawful (h : chainLawful s) : chainLawful (detectMarker s) := by
  have reported := detectMarker_reported (Reported.refl s)
  unfold chainLawful
  rw [reported.params, reported.runState]
  unfold detectMarker searchMarkers
  dsimp only
  split_ifs with outside
  · exact h.congr
  · exact h.congr
  · have on : inSurvey s.run.runState = true := by simpa using outside
    have taken : ChainLaws s.run.params.direction true { s.odo with taken := inc32 s.odo.taken, debounce := some 0 } :=
      h.congr ⟨rfl, rfl, rfl, rfl, rfl, rfl⟩ nofun
    rw [on]
    split
    · simpa using taken
    · split
      · exact matchMarker_lawful taken
      · simpa using taken
      · simpa using taken

/-! ### Requests -/

theorem Carried.chain_lawful {p : List Byte} (c : Carried p s t) (h : chainLawful s) : chainLawful t := by
  have unsurveyed (thawed : frozen s.run.runState = false) : inSurvey s.run.runState = false := by
    cases e : s.run.runState <;> simp_all [frozen, inSurvey]
  cases c with
  | committed st _ _ _ _ =>
    unfold installTarget
    split <;> exact chainLawful_of_same h
  | odometrySet thawed _ =>
    have off := unsurveyed thawed
    exact .of_level (h.rest off) (h.level (h.rest off)) (h.still off)
  | paramsSet unarmed _ _ _ =>
    have off : inSurvey s.run.runState = false := by rw [unarmed]; rfl
    exact .of_level (h.rest off) (h.level (h.rest off)) (h.still off)
  | armed _ _ => exact .of_level rfl rfl rfl
  | started _ =>
    have begun : chainLawful (s.withRun { s.run with runState := .running, startTime := some s.run.timebase }) :=
      chainLawful_of_same h (survey := nofun)
    unfold startLinkLossIfDown startLinkLoss startHeadLoss
    split_ifs <;> exact chainLawful_of_same begun
  | stopped running =>
    exact (drain_settled s).chain_lawful (chainLawful_of_same h (survey := nofun))
  | runReset _ =>
    show ChainLaws s.run.params.direction false (resetOdometry s)
    unfold resetOdometry
    split
    · exact .handOver
    · rename_i thawed
      have off := unsurveyed (by simpa using thawed)
      exact h.congr (.refl _) fun _ => off
  | _ => exact chainLawful_of_same h

end

theorem chainLawful_invariant : EventInvariant chainLawful where
  same := fun units h => by
    unfold chainLawful
    rw [units.params, units.runState, units.odo]
    exact h
  settled := Settled.chain_lawful
  encoder := fun w _ _ h => chainLawful_of_same h (odo := by cases w <;> exact ⟨rfl, rfl, rfl, rfl, rfl, rfl⟩)
  interval := intervalExpires_chain_lawful
  marker := detectMarker_chain_lawful
  released := fun h => chainLawful_of_same h
  ended := fun _ _ => ChainLaws.handOver
  ticked := fun h => chainLawful_of_same h
  carried := Carried.chain_lawful
  powered := fun _ _ => .of_level rfl rfl rfl

/-- Settles O54: only an interval moves the chainages, and its stages 5 to 7 restore the laws; a run's end hands C over. -/
theorem chainageLawsKept : Obligations.ChainageLawsKept := by
  intro s t chainage correction hstep
  rw [← chainLawful_iff]
  exact step_keeps chainLawful (fun _ _ h => h) (fun _ _ _ => chainLawful_invariant.exec_keeps)
    ((chainLawful_iff s).mpr ⟨chainage, correction⟩) hstep

end Sys2Proof.Machine

/-! The loss timers run exactly when they must (R188, R189). -/

namespace Sys2Proof.Machine

/-! ### Whether some port streams -/

/-- A port that streams as it did before leaves the others to decide. -/
theorem anyStreaming_set {ports : PerHead Port} {p : HeadId} {port : Port}
    (same : port.state = .streaming ↔ (ports.get p).state = .streaming) :
    anyStreaming (ports.set p port) = anyStreaming ports := by
  rw [Bool.eq_iff_iff, anyStreaming_eq, anyStreaming_eq]
  refine exists_congr fun q => ?_
  by_cases e : q = p
  · subst e
    rw [PerHead.get_set, same]
  · rw [PerHead.get_set_ne _ _ _ _ e]

theorem anyStreaming_of_streaming {ports : PerHead Port} {p : HeadId} (h : (ports.get p).state = .streaming) :
    anyStreaming ports = true := (anyStreaming_eq ports).mpr ⟨p, h⟩

/-! ### The law of the loss timers -/

section
variable {s t : State}

/-- What the law reads is the same. -/
theorem lossTimerLaw_of_same (h : lossTimerLaw s) (state : t.run.runState = s.run.runState := by rfl)
    (streaming : anyStreaming t.ports = anyStreaming s.ports := by rfl)
    (headLoss : t.faults.headLoss.isSome = s.faults.headLoss.isSome := by rfl)
    (linkLoss : t.faults.linkLoss.isSome = s.faults.linkLoss.isSome := by rfl)
    (linkUp : t.queue.linkUp = s.queue.linkUp := by rfl) : lossTimerLaw t := by
  unfold lossTimerLaw
  rw [state, streaming, headLoss, linkLoss, linkUp]
  exact h

/-- With both timers stopped outside a survey the law holds. -/
theorem lossTimerLaw_of_stopped (headLoss : t.faults.headLoss = none) (linkLoss : t.faults.linkLoss = none)
    (state : inSurvey t.run.runState = false) : lossTimerLaw t := by
  have idle : t.run.runState ≠ .running := fun e => by simp [e, inSurvey] at state
  simp [lossTimerLaw, headLoss, linkLoss, state, idle]

theorem Settled.loss_timer_law (m : Settled s t) (h : lossTimerLaw s) : lossTimerLaw t := by
  rcases m.run with on | ends
  · exact lossTimerLaw_of_same h on.runState (by rw [m.ports]) (by rw [on.headLoss]) (by rw [on.linkLoss]) m.linkUp
  · exact lossTimerLaw_of_stopped ends.headLoss ends.linkLoss (by rw [ends.runState]; rfl)

theorem Reported.loss_timer_law (m : Reported s t) (h : lossTimerLaw s) : lossTimerLaw t :=
  lossTimerLaw_of_same h m.runState (by rw [m.ports]) (by rw [m.headLoss]) (by rw [m.linkLoss]) m.linkUp

theorem endEvent_loss_timer_law (h : lossTimerLaw s) : lossTimerLaw (endEvent s) := (endEvent_settled (.refl s)).loss_timer_law h

/-- A port's record changes, but not in whether it streams. -/
theorem withPort_loss_timer_law {p : HeadId} {port : Port} (h : lossTimerLaw s)
    (same : port.state = .streaming ↔ (s.ports.get p).state = .streaming := by exact Iff.rfl) :
    lossTimerLaw (s.withPort p port) :=
  lossTimerLaw_of_same h rfl (anyStreaming_set same)

/-- A port's record changes, and then it is seen whether a port still streams: in RUNNING the head-loss timer starts if none
does (R188). -/
theorem leftFrom_loss_timer_law {u : State} {p : HeadId} {port : Port} (h : lossTimerLaw s) (left : port.state ≠ .streaming)
    (m : Settled (s.withPort p port) u) (on : GoesOn (s.withPort p port) u) :
    lossTimerLaw (leftFrom (s.ports.get p).state u) := by
  have runState : u.run.runState = s.run.runState := on.runState
  have headLoss : u.faults.headLoss = s.faults.headLoss := on.headLoss
  have linkLoss : u.faults.linkLoss = s.faults.linkLoss := on.linkLoss
  have linkUp : u.queue.linkUp = s.queue.linkUp := m.linkUp
  have ports : u.ports = s.ports.set p port := m.ports
  by_cases streamed : (s.ports.get p).state = .streaming
  · obtain ⟨head, link⟩ := h
    rw [anyStreaming_of_streaming streamed] at head
    have stopped : u.faults.headLoss = none := by
      rw [headLoss]
      simpa using head
    have link' : u.faults.linkLoss.isSome = (inSurvey u.run.runState && !u.queue.linkUp) := by
      rw [linkLoss, runState, linkUp, link]
    have started (running : u.run.runState = .running) : lossTimerLaw (startHeadLoss u) := by
      unfold startHeadLoss
      split_ifs with some none'
      · exact ⟨by simp [stopped, some], link'⟩
      · simp [stopped] at none'
      · exact ⟨by simp [startMs, running, some], link'⟩
    unfold leftFrom afterLeaving
    rw [if_pos streamed]
    split_ifs with running
    · exact (decideHalt_settled (progressTest_settled (.refl _))).loss_timer_law (started running)
    · exact ⟨by simp [stopped, running], link'⟩
  · have same : port.state = .streaming ↔ (s.ports.get p).state = .streaming := by simp [left, streamed]
    unfold leftFrom
    rw [if_neg streamed]
    exact lossTimerLaw_of_same h runState (by rw [ports, anyStreaming_set same]) (by rw [headLoss]) (by rw [linkLoss]) linkUp

theorem raiseSoft_loss_timer_law {source : Source} {detail : EventDetail} (h : lossTimerLaw s) :
    lossTimerLaw (raiseSoft source detail s) := (raiseSoft_settled (.refl s)).loss_timer_law h

/-- A port leaves STREAMING, or was never in it, with a soft fault. -/
theorem leftFrom_raiseSoft_loss_timer_law {p : HeadId} {port : Port} {source : Source} {detail : EventDetail}
    (h : lossTimerLaw s) (left : port.state ≠ .streaming) :
    lossTimerLaw (leftFrom (s.ports.get p).state (raiseSoft source detail (s.withPort p port))) :=
  leftFrom_loss_timer_law h left (raiseSoft_settled (.refl _)) (by constructor <;> simp)

theorem sliceArrives_loss_timer_law {p : HeadId} {payload : List Byte} (h : lossTimerLaw s) :
    lossTimerLaw (sliceArrives p payload s) := by
  have passed {v : State} (hv : lossTimerLaw v) (f : SliceFields) : lossTimerLaw (passOn p f payload v) := by
    unfold passOn
    split
    · exact (deliverSlice_settled (.refl _)).loss_timer_law (withPort_loss_timer_law hv)
    · exact hv
  have synchronised (f : SliceFields) : lossTimerLaw (synchronise p f s) := by
    have entered {port : Port} (streams : port.state = .streaming) : lossTimerLaw (afterEntering (s.withPort p port)) := by
      have some : anyStreaming (s.ports.set p port) = true := anyStreaming_of_streaming (p := p) (by simpa using streams)
      obtain ⟨head, link⟩ := h
      unfold afterEntering
      split_ifs with running
      · exact ⟨by simp [some], link⟩
      · refine ⟨?_, link⟩
        have idle : s.run.runState ≠ .running := running
        simpa [idle] using head
    exact entered rfl
  have sequenced (f : SliceFields) : lossTimerLaw (sequenceSlice p f s) := by
    have gap : lossTimerLaw (sliceGap p f s) := by
      unfold sliceGap
      dsimp only
      split_ifs
      exacts [h, withPort_loss_timer_law h, raiseSoft_loss_timer_law (withPort_loss_timer_law h)]
    refine withPort_loss_timer_law gap ?_
    unfold sliceExpect sliceRevolution
    split <;> rfl
  have taken (f : SliceFields) : lossTimerLaw (takeSlice p f payload s) := by
    have entered : lossTimerLaw (if f.start = 0 then passOn p f payload (synchronise p f s) else countUnsynced p s) := by
      split
      exacts [passed (synchronised f) f, withPort_loss_timer_law h]
    unfold takeSlice
    split
    exacts [entered, entered, passed (sequenced f) f, withPort_loss_timer_law h, h, h]
  unfold sliceArrives
  dsimp only
  split_ifs
  exacts [h, withPort_loss_timer_law h, taken _, raiseSoft_loss_timer_law (withPort_loss_timer_law h)]

/-- A WARN or an OK does not make a port stream or stop streaming (R30). -/
theorem clearedFault_streaming (port : Port) : (clearedFault port).state = .streaming ↔ port.state = .streaming := by
  unfold clearedFault
  split_ifs with faulted
  · simp [idlePort, faulted]
  · exact Iff.rfl

theorem headStatusArrives_loss_timer_law {p : HeadId} {payload : List Byte} (h : lossTimerLaw s) :
    lossTimerLaw (headStatusArrives p payload s) := by
  have fault (code : Nat) (temperature : Int) : lossTimerLaw (statusFault p code temperature s) := by
    unfold statusFault
    dsimp only
    split
    · exact withPort_loss_timer_law h
    · exact leftFrom_raiseSoft_loss_timer_law h (by simp [idlePort])
  have warn (code : Nat) (temperature : Int) : lossTimerLaw (statusWarn p code temperature s) := by
    unfold statusWarn
    dsimp only
    split
    · exact withPort_loss_timer_law h (clearedFault_streaming _)
    · exact raiseSoft_loss_timer_law (withPort_loss_timer_law h (clearedFault_streaming _))
  unfold headStatusArrives
  split_ifs
  · exact h
  · exact withPort_loss_timer_law h
  · split
    exacts [withPort_loss_timer_law h, fault _ _, warn _ _, withPort_loss_timer_law h (clearedFault_streaming _)]

theorem silenceExpires_loss_timer_law {p : HeadId} (h : lossTimerLaw s) : lossTimerLaw (silenceExpires p s) := by
  unfold silenceExpires
  dsimp only
  split
  · rename_i due
    have streamed : (s.ports.get p).state = .streaming := by simpa using (Bool.and_eq_true_iff.mp due).1
    have law := leftFrom_raiseSoft_loss_timer_law (p := p) (port := idlePort .silent (s.ports.get p)) (source := .port p)
      (detail := .headSilent ((s.ports.get p).revolution.getD 0) ((s.ports.get p).expected.getD 0)) h (by simp [idlePort])
    rwa [streamed, leftFrom, if_pos rfl] at law
  · exact h

/-! ### Expiries and the trunk link -/

/-- A hard fault within a survey halts the run, with both timers stopped (R191). -/
theorem takeHardFault_loss_timer_law {source : Source} {detail : EventDetail} (survey : inSurvey s.run.runState = true) :
    lossTimerLaw (takeHardFault source detail s) := by
  have on : inSurvey (raiseHard source detail s).run.runState = true := by simpa using survey
  rw [takeHardFault, if_pos on]
  exact lossTimerLaw_of_stopped (by simp) (by simp) (by simp [inSurvey])

/-- After the carrier is lost the link-loss timer runs in a survey (R189). -/
theorem startLinkLoss_loss_timer_law {u : State} (h : lossTimerLaw s) (runState : u.run.runState = s.run.runState)
    (ports : u.ports = s.ports) (headLoss : u.faults.headLoss = s.faults.headLoss)
    (linkLoss : u.faults.linkLoss = s.faults.linkLoss) (down : u.queue.linkUp = false) : lossTimerLaw (startLinkLoss u) := by
  obtain ⟨head, link⟩ := h
  rw [← headLoss, ← runState, ← ports] at head
  rw [← linkLoss, ← runState] at link
  unfold startLinkLoss
  split_ifs with start
  · refine ⟨head, ?_⟩
    simp only [Bool.and_eq_true] at start
    simp [startMs, start.1, down]
  · refine ⟨head, ?_⟩
    rw [down]
    cases on : inSurvey u.run.runState
    · rw [link, on]
      rfl
    · cases runs : u.faults.linkLoss
      · simp [on, runs] at start
      · rfl

theorem abandon_settled (s : State) : GoesOn s (abandon s) ∧ (abandon s).ports = s.ports ∧ (abandon s).queue.linkUp = s.queue.linkUp := by
  have reoffered (r : Option Record) (v : State) : GoesOn v (reofferRunEnd r v) ∧ (reofferRunEnd r v).ports = v.ports
      ∧ (reofferRunEnd r v).queue.linkUp = v.queue.linkUp := by
    unfold reofferRunEnd
    split
    · split_ifs
      · exact ⟨by constructor <;> simp, by simp, by simp⟩
      · exact ⟨.refl v, rfl, rfl⟩
    · exact ⟨.refl v, rfl, rfl⟩
  cases e : sendingRecord s.queue with
  | none =>
    rw [abandon_of_idle e]
    exact ⟨⟨rfl, rfl, rfl, rfl⟩, rfl, by simp⟩
  | some r =>
    obtain ⟨⟨runState, odo, headLoss, linkLoss⟩, ports, linkUp⟩ := reoffered (some r)
      (recordLeft { s.queue.counters with txAbandoned := inc32 s.queue.counters.txAbandoned } s)
    rw [abandon_of_sending e]
    exact ⟨⟨runState, odo, headLoss, linkLoss⟩, ports, by simpa [recordLeft] using linkUp⟩

theorem linkDown_loss_timer_law (h : lossTimerLaw s) : lossTimerLaw (linkDown s) := by
  obtain ⟨on, ports, linkUp⟩ := abandon_settled (s.withQueue { s.queue with linkUp := false })
  exact startLinkLoss_loss_timer_law h on.runState ports on.headLoss on.linkLoss linkUp

theorem completeTransmission_loss_timer_law (h : lossTimerLaw s) : lossTimerLaw (completeTransmission s) := by
  have ended (r : Record) {v : State} (hv : lossTimerLaw v) : lossTimerLaw (completeRunEnd r v) := by
    unfold completeRunEnd
    split
    · split_ifs with ends
      · have idle : v.faults.headLoss = none := by simpa [ends.1] using hv.1
        exact lossTimerLaw_of_stopped idle rfl rfl
      · exact hv
    · exact hv
  cases e : sendingRecord s.queue with
  | none => rw [completeTransmission_of_idle e]; exact h
  | some r =>
    have left : lossTimerLaw (recordLeft { s.queue.counters with transmitted := inc32 s.queue.counters.transmitted } s) :=
      lossTimerLaw_of_same h (linkUp := by simp [recordLeft])
    rw [completeTransmission_of_sending e]
    exact lossTimerLaw_of_same (ended r left) (linkUp := by simp)

/-! ### Requests -/

/-- START begins the timers that R10 gives. -/
theorem startLossTimers_loss_timer_law (h : lossTimerLaw s) (armed : s.run.runState = .armed) (time : Option Nat) :
    lossTimerLaw (startLinkLossIfDown (startHeadLoss (s.withRun { s.run with runState := .running, startTime := time }))) := by
  obtain ⟨head, link⟩ := h
  have noHead : s.faults.headLoss = none := by simpa [armed] using head
  have noLink : s.faults.linkLoss = none := by simpa [armed, inSurvey] using link
  unfold startLinkLossIfDown startLinkLoss startHeadLoss
  cases up : s.queue.linkUp <;> cases some : anyStreaming s.ports <;>
    simp [lossTimerLaw, noHead, noLink, up, some, inSurvey, startMs]

theorem Carried.loss_timer_law {p : List Byte} (c : Carried p s t) (h : lossTimerLaw s) : lossTimerLaw t := by
  cases c with
  | committed st _ _ _ _ =>
    refine lossTimerLaw_of_same h ?_ ?_ ?_ ?_ ?_ <;> (unfold installTarget; split <;> rfl)
  | headConfigured q thawed _ _ _ =>
    have idle : s.run.runState ≠ .running := fun e => by simp [e, frozen] at thawed
    refine ⟨?_, h.2⟩
    have stopped := h.1
    rw [decide_eq_false idle, Bool.false_and] at stopped
    exact stopped.trans (by simp [idle])
  | armed _ _ => exact lossTimerLaw_of_stopped rfl rfl rfl
  | started armed => exact startLossTimers_loss_timer_law h armed _
  | stopped running =>
    refine (drain_settled s).loss_timer_law ⟨by simp, ?_⟩
    have link := h.2
    rw [running] at link
    exact link
  | runReset _ => exact lossTimerLaw_of_stopped rfl rfl rfl
  | _ => exact lossTimerLaw_of_same h

theorem exec_loss_timer_law {c : Instr} (h : lossTimerLaw s) (hexec : exec c s = .next t) : lossTimerLaw t := by
  have taking (isKind : Nat → Bool) (k : Nat) : lossTimerLaw (takeRequest isKind (requestBody k) s) := by
    rcases takeRequest_taken isKind k s with e | ⟨r, rest, -, e⟩ <;> rw [e]
    · exact h
    · have begun : lossTimerLaw (beginTaking rest s) := lossTimerLaw_of_same h
      exact lossTimerLaw_of_same ((requestBody_carried k r.payload (beginTaking rest s)).loss_timer_law begun)
        (linkUp := by simp [taken])
  have due (b : Bool) {v : State} (hv : b = true → lossTimerLaw v) : lossTimerLaw (if b then endEvent v else s) := by
    split
    exacts [endEvent_loss_timer_law (hv ‹_›), h]
  cases exec_course hexec with
  | taking k _ _ _ => exact taking _ k
  | unknown _ => exact taking _ 0
  | powerOn lines _ => exact lossTimerLaw_of_stopped rfl rfl rfl
  | resetInput _ => exact lossTimerLaw_of_stopped rfl rfl rfl
  | headCarrierLoss p _ =>
    exact endEvent_loss_timer_law (leftFrom_loss_timer_law h (by simp [portCarrierLoss, idlePort]) (.refl _) (.refl _))
  | headCarrierGain p _ =>
    refine endEvent_loss_timer_law (withPort_loss_timer_law h ?_)
    unfold portCarrierGain idlePort
    split_ifs with down enabled
    · simp [down]
    · simp [down]
    · exact Iff.rfl
  | headFrameTooLong p _ =>
    unfold frameTooLong
    split_ifs
    exacts [endEvent_loss_timer_law (withPort_loss_timer_law h), endEvent_loss_timer_law h]
  | headFrameDiscarded p kind payload crc _ =>
    have ported (port : Port) (same : port.state = (s.ports.get p).state) : lossTimerLaw (s.withPort p port) :=
      withPort_loss_timer_law h (by rw [same])
    apply endEvent_loss_timer_law
    unfold frameDiscarded
    split_ifs
    exacts [h, ported _ rfl, ported _ rfl, ported _ rfl, h]
  | slice p payload _ => exact endEvent_loss_timer_law (sliceArrives_loss_timer_law h)
  | headStatus p payload _ => exact endEvent_loss_timer_law (headStatusArrives_loss_timer_law h)
  | silenceTimerExpiry p _ => exact endEvent_loss_timer_law (silenceExpires_loss_timer_law h)
  | encoderTransition w p1 p2 _ => exact endEvent_loss_timer_law (lossTimerLaw_of_same h)
  | odometryIntervalExpiry _ => exact due _ fun _ => (intervalExpires_reported (.refl s)).loss_timer_law h
  | markerDetection _ => exact endEvent_loss_timer_law ((detectMarker_reported (.refl s)).loss_timer_law h)
  | closeTimerExpiry j _ =>
    rcases closeTimerExpires_cases j s with e | e <;> rw [e]
    · exact h
    · exact endEvent_loss_timer_law ((decideHalt_settled (closeAll_settled (.refl s))).loss_timer_law h)
  | alertHoldExpiry _ => exact due _ fun _ => lossTimerLaw_of_same h
  | headLossTimerExpiry _ =>
    refine due _ fun expired => takeHardFault_loss_timer_law ?_
    have runs := h.1
    rw [show s.faults.headLoss = some 0 by simpa [timerExpires] using expired] at runs
    have running : s.run.runState = .running := by simpa using (Bool.and_eq_true_iff.mp runs.symm).1
    simp [running, inSurvey]
  | linkLossTimerExpiry _ =>
    refine due _ fun expired => takeHardFault_loss_timer_law ?_
    have runs := h.2
    rw [show s.faults.linkLoss = some 0 by simpa [timerExpires] using expired] at runs
    exact (Bool.and_eq_true_iff.mp runs.symm).1
  | trunkLinkDown _ => exact endEvent_loss_timer_law (linkDown_loss_timer_law h)
  | trunkLinkUp _ =>
    refine endEvent_loss_timer_law ⟨h.1, ?_⟩
    show false = (inSurvey s.run.runState && !true)
    simp
  | transmissionComplete _ => exact endEvent_loss_timer_law (completeTransmission_loss_timer_law h)
  | trunkFrameTooLong _ =>
    exact endEvent_loss_timer_law (lossTimerLaw_of_same h (by simp) (by simp) (by simp) (by simp) (by simp))
  | trunkFrameDiscarded kind payload crc _ =>
    exact endEvent_loss_timer_law (lossTimerLaw_of_same h (by simp) (by simp) (by simp) (by simp) (by simp))
  | request tag kind payload _ =>
    exact endEvent_loss_timer_law (lossTimerLaw_of_same h (by simp) (by simp) (by simp) (by simp) (by simp))
  | timebaseAdvance _ =>
    refine endEvent_loss_timer_law (lossTimerLaw_of_same h rfl ?_ ?_ ?_)
    · show anyStreaming (s.ports.map _) = _
      rw [Bool.eq_iff_iff, anyStreaming_eq, anyStreaming_eq]
      simp
    · show (tickTimer s.faults.headLoss).isSome = _
      simp [tickTimer]
    · show (tickTimer s.faults.linkLoss).isSome = _
      simp [tickTimer]

end

/-- Settles O55: each change of the ports, of the link and of the run state starts or stops the timers with it. -/
theorem lossTimersKept : Obligations.LossTimersKept := by
  intro s t h hstep
  exact step_keeps lossTimerLaw (fun _ _ h => h) (fun _ _ _ => exec_loss_timer_law) h hstep

end Sys2Proof.Machine

/-! The alert line (R140, R141), the wheels (R64 to R66), the camera line (R77) and the intake (R166). -/

namespace Sys2Proof.Machine

/-! ### What the laws of the wheels and of the camera line read -/

/-- The wheels' records as their law reads them, the agreement run and the camera line are the same. -/
structure SameWheels (o o' : Odometry) : Prop where
  statusA : o'.a.status = o.a.status
  statusB : o'.b.status = o.b.status
  agreement : o'.agreement = o.agreement
  remainderA : o'.a.remainder = o.a.remainder
  remainderB : o'.b.remainder = o.b.remainder
  silentA : o'.a.silentTravel = o.a.silentTravel
  silentB : o'.b.silentTravel = o.b.silentTravel
  camera : o'.camera.level = o.camera.level

theorem SameWheels.refl (o : Odometry) : SameWheels o o := ⟨rfl, rfl, rfl, rfl, rfl, rfl, rfl, rfl⟩

/-- The laws of the wheels and of the camera line. -/
def lineLaws (o : Odometry) : Prop := wheelLaw o ∧ cameraLaw o

section
variable {o o' : Odometry}

theorem lineLaws_of_same (h : lineLaws o) (same : SameWheels o o' := by exact ⟨rfl, rfl, rfl, rfl, rfl, rfl, rfl, rfl⟩) :
    lineLaws o' := by
  obtain ⟨statusA, statusB, agreement, remainderA, remainderB, silentA, silentB, camera⟩ := same
  unfold lineLaws wheelLaw cameraLaw bothPresent at *
  rwa [statusA, statusB, agreement, remainderA, remainderB, silentA, silentB, camera]

theorem handOver_lineLaws (h : lineLaws o) : lineLaws (handOver o) := lineLaws_of_same h

/-! ### The stages of an interval -/

theorem wheelRemainder_lt (remainder : Nat) (n : Int) (scale : Nat) : wheelRemainder remainder n scale < 65536 := by
  unfold wheelRemainder
  omega

/-- A wheel without counts and with a remainder below one dmm has not travelled. -/
theorem wheelTravel_zero {remainder : Nat} (h : remainder < 65536) (scale : Nat) : wheelTravel remainder 0 scale = 0 := by
  unfold wheelTravel
  omega

/-- Stage 1 keeps the law: of two wheels one has turned, or neither has travelled (R64, R65). -/
theorem travelWheels_lineLaws (nA nB : Int) (h : lineLaws o) :
    lineLaws (travelWheels nA nB (wheelTravel o.a.remainder nA o.settings.scaleA)
      (wheelTravel o.b.remainder nB o.settings.scaleB) o) := by
  obtain ⟨⟨notBoth, agreement, present, lowA, lowB, silent⟩, camera⟩ := h
  refine ⟨⟨notBoth, agreement, present, wheelRemainder_lt _ _ _, wheelRemainder_lt _ _ _, ?_⟩, camera⟩
  show silentAfter o.a.silentTravel nA _ = 0 ∨ silentAfter o.b.silentTravel nB _ = 0
  unfold silentAfter satAdd
  split_ifs with turnedA turnedB turnedB
  · exact .inl rfl
  · exact .inl rfl
  · exact .inr rfl
  · obtain rfl : nA = 0 := not_not.mp turnedA
    obtain rfl : nB = 0 := not_not.mp turnedB
    rw [wheelTravel_zero lowA, wheelTravel_zero lowB]
    exact silent.imp (fun e => by simp [e]) fun e => by simp [e]

end

section
variable {s : State}

theorem raiseSoft_lineLaws {source : Source} {detail : EventDetail} (h : lineLaws s.odo) :
    lineLaws (raiseSoft source detail s).odo := by
  simpa using h

/-- A wheel becomes LOST only with the other PRESENT (R65). -/
theorem judgeLossA_lineLaws (h : lineLaws s.odo) : lineLaws (judgeLossA s).odo := by
  unfold judgeLossA
  dsimp only
  split
  · obtain ⟨⟨-, -, -, lowA, lowB, -⟩, camera⟩ := h
    exact raiseSoft_lineLaws ⟨⟨by simp, Nat.zero_lt_succ 7, fun _ => rfl, lowA, lowB, .inl rfl⟩, camera⟩
  · exact h

theorem judgeLossB_lineLaws (h : lineLaws s.odo) : lineLaws (judgeLossB s).odo := by
  unfold judgeLossB
  dsimp only
  split
  · obtain ⟨⟨-, -, -, lowA, lowB, -⟩, camera⟩ := h
    exact raiseSoft_lineLaws ⟨⟨by simp, Nat.zero_lt_succ 7, fun _ => rfl, lowA, lowB, .inr rfl⟩, camera⟩
  · exact h

theorem restoreWheels_lineLaws {o : Odometry} {nA nB dA dB : Int} (h : lineLaws o) :
    lineLaws (restoreWheels nA nB dA dB o) := by
  obtain ⟨⟨notBoth, agreement, present, lowA, lowB, silent⟩, camera⟩ := h
  unfold restoreWheels
  split_ifs with both agrees full
  · exact ⟨⟨notBoth, agreement, present, lowA, lowB, silent⟩, camera⟩
  · exact ⟨⟨by simp, Nat.zero_lt_succ 7, fun _ => rfl, lowA, lowB, .inl rfl⟩, camera⟩
  · exact ⟨⟨notBoth, Nat.lt_of_not_le full, fun is => absurd is both, lowA, lowB, silent⟩, camera⟩
  · exact ⟨⟨notBoth, Nat.zero_lt_succ 7, fun _ => rfl, lowA, lowB, silent⟩, camera⟩

theorem filterSlip_lineLaws {dA dB : Int} (h : lineLaws s.odo) : lineLaws (filterSlip dA dB s).odo := by
  have filtered (f : Nat) (mode : FilterMode) : lineLaws { s.odo with slipFilter := f, filterMode := mode } :=
    lineLaws_of_same h
  unfold filterSlip
  dsimp only
  split
  · split
    · split
      exacts [raiseSoft_lineLaws (filtered _ _), filtered _ s.odo.filterMode]
    · split
      exacts [filtered _ _, filtered _ s.odo.filterMode]
  · exact h

theorem checkReversal_lineLaws (h : lineLaws s.odo) : lineLaws (checkReversal s).odo := by
  have flagged (reversed : Bool) : lineLaws { s.odo with reversed := reversed } := lineLaws_of_same h
  unfold checkReversal
  dsimp only
  split_ifs
  exacts [raiseSoft_lineLaws (flagged _), flagged _, h]

theorem triggerCamera_lineLaws {p : RunParams} {o : Odometry} (h : lineLaws o) : lineLaws (triggerCamera p o) := by
  obtain ⟨wheels, camera⟩ := h
  refine ⟨wheels, ?_⟩
  show (pulseTimes _ o.camera).level = .idle
  rw [show o.camera = ⟨.idle, o.camera.pulses⟩ from by rw [← show o.camera.level = .idle from camera], pulseTimes_idle]

theorem moveChainage_sameWheels (d : Direction) (step : Int) (mode : OdoMode) (o : Odometry) :
    SameWheels o (moveChainage d step { o with mode := mode }) := ⟨rfl, rfl, rfl, rfl, rfl, rfl, rfl, rfl⟩

theorem integrate_lineLaws {nA nB : Int} (h : lineLaws s.odo) : lineLaws (integrate nA nB s).odo := by
  have judged : lineLaws (lossJudged nA nB s).odo :=
    judgeLossB_lineLaws (judgeLossA_lineLaws (travelWheels_lineLaws nA nB h))
  have filtered : lineLaws (slipFiltered nA nB s).odo := filterSlip_lineLaws (restoreWheels_lineLaws judged)
  have moved : lineLaws (chainageMoved nA nB s).odo := by
    unfold chainageMoved
    exact lineLaws_of_same filtered (moveChainage_sameWheels _ _ _ _)
  rw [integrate_eq, State.withOdo_odo, scanMissed_odo]
  exact triggerCamera_lineLaws (checkReversal_lineLaws moved)

theorem intervalExpires_lineLaws (h : lineLaws s.odo) : lineLaws (intervalExpires s).odo := by
  have taken : lineLaws (s.withOdo (takeCounts s.odo)).odo := lineLaws_of_same h
  unfold intervalExpires
  dsimp only
  split
  · exact integrate_lineLaws taken
  · exact integrate_lineLaws taken
  · obtain ⟨⟨notBoth, agreement, present, -, -, silent⟩, camera⟩ := h
    exact ⟨⟨notBoth, agreement, present, Nat.zero_lt_succ 65535, Nat.zero_lt_succ 65535, silent⟩, camera⟩
  all_goals exact taken

theorem detectMarker_lineLaws (h : lineLaws s.odo) : lineLaws (detectMarker s).odo := by
  have recalibrated (label delta : Nat) (v : State) (hv : lineLaws v.odo) : lineLaws (recalibrate label delta v).odo := by
    have rescaled (settings : OdoSettings) : lineLaws { v.odo with settings := settings } := lineLaws_of_same hv
    unfold recalibrate
    dsimp only
    split_ifs
    exacts [raiseSoft_lineLaws hv, by simpa using rescaled _, raiseSoft_lineLaws hv]
  have judged (k : Marker) (v : State) (hv : lineLaws v.odo) : lineLaws (judgeRecalibration k v).odo := by
    unfold judgeRecalibration
    split
    · exact hv
    · dsimp only
      split
      exacts [recalibrated _ _ v hv, hv]
  have ended (v : State) (x : Option MarkerRef) (hv : lineLaws v.odo) :
      lineLaws (v.withOdo { v.odo with lastMatched := x, u := 0 }).odo := lineLaws_of_same hv
  have matched (k : Marker) (v : State) (hv : lineLaws v.odo) : lineLaws (matchMarker k v).odo := by
    have corrected (r : Int) : lineLaws { v.odo with r := r } := lineLaws_of_same hv
    exact ended _ _ (judged k _ (corrected _))
  have searched (v : State) (hv : lineLaws v.odo) : lineLaws (searchMarkers v).odo := by
    unfold searchMarkers
    split
    · exact raiseSoft_lineLaws hv
    · split
      exacts [matched _ v hv, raiseSoft_lineLaws hv, raiseSoft_lineLaws hv]
  have counted (n m k : Nat) (x : Option Nat) :
      lineLaws { s.odo with ignored := n, debounced := m, taken := k, debounce := x } := lineLaws_of_same h
  unfold detectMarker
  dsimp only
  split_ifs
  exacts [counted _ s.odo.debounced s.odo.taken s.odo.debounce, counted s.odo.ignored _ s.odo.taken s.odo.debounce,
    searched _ (counted s.odo.ignored s.odo.debounced _ _)]

end

/-! ### The laws over every command -/

/-- The alert line, the wheels and the camera line keep their laws. -/
def lawfulLines (s : State) : Prop := alertLaw s.comparator ∧ lineLaws s.odo

theorem lawfulLines_of_same {s t : State} (h : lawfulLines s) (comparator : t.comparator = s.comparator := by rfl)
    (odo : t.odo = s.odo := by rfl) : lawfulLines t := by
  unfold lawfulLines
  rwa [comparator, odo]

theorem Settled.lawful_lines {s t : State} (m : Settled s t) (h : lawfulLines s) : lawfulLines t := by
  refine ⟨m.alert h.1, ?_⟩
  rcases m.run with on | ends
  · rw [on.odo]
    exact h.2
  · rw [ends.odo]
    exact handOver_lineLaws h.2

theorem Carried.lawful_lines {p : List Byte} {s t : State} (c : Carried p s t) (h : lawfulLines s) : lawfulLines t := by
  obtain ⟨alert, lines⟩ := h
  cases c with
  | committed st _ _ _ _ =>
    refine lawfulLines_of_same ⟨alert, lines⟩ ?_ ?_ <;> (unfold installTarget; split <;> rfl)
  | odometrySet _ _ => exact ⟨alert, lineLaws_of_same lines⟩
  | armed _ _ =>
    exact ⟨alert, ⟨by simp [prepareRun, armOdometry, armWheel], Nat.zero_lt_succ 7, fun _ => rfl, Nat.zero_lt_succ 65535,
      Nat.zero_lt_succ 65535, .inl rfl⟩, lines.2⟩
  | started _ =>
    unfold startLinkLossIfDown startLinkLoss startHeadLoss
    split_ifs <;> exact ⟨alert, lines⟩
  | stopped _ => exact (drain_settled s).lawful_lines ⟨alert, lines⟩
  | runReset _ =>
    refine ⟨rfl, ?_⟩
    show lineLaws (resetOdometry s)
    unfold resetOdometry
    split
    exacts [handOver_lineLaws lines, lines]
  | _ => exact ⟨alert, lines⟩

theorem encoderStep_same (p1 p2 : Bool) (w : WheelRecord) :
    (encoderStep p1 p2 w).status = w.status ∧ (encoderStep p1 p2 w).remainder = w.remainder
      ∧ (encoderStep p1 p2 w).silentTravel = w.silentTravel := by
  unfold encoderStep
  dsimp only
  split_ifs <;> exact ⟨rfl, rfl, rfl⟩

theorem encoderAt_lineLaws (w : Wheel) (p1 p2 : Bool) {o : Odometry} (h : lineLaws o) : lineLaws (encoderAt w p1 p2 o) := by
  cases w with
  | a =>
    obtain ⟨status, remainder, silent⟩ := encoderStep_same p1 p2 o.a
    exact lineLaws_of_same h ⟨status, rfl, rfl, remainder, rfl, silent, rfl, rfl⟩
  | b =>
    obtain ⟨status, remainder, silent⟩ := encoderStep_same p1 p2 o.b
    exact lineLaws_of_same h ⟨rfl, status, rfl, rfl, remainder, rfl, silent, rfl⟩

theorem lawfulLines_invariant : EventInvariant lawfulLines where
  same := fun units h => lawfulLines_of_same h units.comparator units.odo
  settled := Settled.lawful_lines
  encoder := fun w p1 p2 h => ⟨h.1, encoderAt_lineLaws w p1 p2 h.2⟩
  interval := fun {s} h => by
    refine ⟨?_, intervalExpires_lineLaws h.2⟩
    rw [(intervalExpires_reported (.refl s)).comparator]
    exact h.1
  marker := fun {s} h => by
    refine ⟨?_, detectMarker_lineLaws h.2⟩
    rw [(detectMarker_reported (.refl s)).comparator]
    exact h.1
  released := fun h => ⟨rfl, h.2⟩
  ended := fun _ h => ⟨h.1, handOver_lineLaws h.2⟩
  ticked := fun {s} h => by
    refine ⟨?_, lineLaws_of_same h.2⟩
    show s.comparator.alertLine = (tickTimer s.comparator.hold).isSome
    rw [tickTimer, Option.isSome_map]
    exact h.1
  carried := Carried.lawful_lines
  powered := fun _ _ => ⟨rfl, ⟨by simp [powerOnWith, State.reset], Nat.zero_lt_succ 7, fun _ => rfl, Nat.zero_lt_succ 65535,
    Nat.zero_lt_succ 65535, .inl rfl⟩, rfl⟩

/-- The intake never holds more than 4 requests (R166). -/
theorem exec_intake_law {c : Instr} {s t : State} (h : intakeLaw s.mgmt) (hexec : exec c s = .next t) : intakeLaw t.mgmt := by
  cases exec_act hexec with
  | configured m => exact m.intake h
  | power lines _ => exact Nat.zero_le 4
  | taken k r rest ready =>
    have body := requestBody_carried k r.payload (beginTaking rest s)
    rw [intakeLaw, ready.front, List.length_cons] at h
    show (requestBody k r.payload (beginTaking rest s)).1.mgmt.intake.length ≤ 4
    rw [body.intake, beginTaking_mgmt]
    exact (Nat.le_succ _).trans h

/-- Settles O56: the stages of an interval judge the wheels one after the other, and each pulse of the camera line ends in it. -/
theorem alertWheelIntakeKept : Obligations.AlertWheelIntakeKept := by
  intro s t alert wheels camera intake hstep
  obtain ⟨lines, waiting⟩ := step_keeps (fun s => lawfulLines s ∧ intakeLaw s.mgmt) (fun _ _ h => h)
    (fun _ _ _ ⟨lines, waiting⟩ hexec => ⟨lawfulLines_invariant.exec_keeps lines hexec, exec_intake_law waiting hexec⟩)
    ⟨⟨alert, wheels, camera⟩, intake⟩ hstep
  exact ⟨lines.1, lines.2.1, lines.2.2, waiting⟩

end Sys2Proof.Machine

/-! A port's record follows its state (R23, R35, R36), and a head's counts add up (R41). -/

namespace Sys2Proof.Machine

/-! ### The law of a port -/

section
variable {port port' : Port}

/-- What the law reads is the same. -/
theorem portLaw_of_same (h : portLaw port) (state : port'.state = port.state := by rfl)
    (expected : port'.expected = port.expected := by rfl) (revolution : port'.revolution = port.revolution := by rfl)
    (silence : port'.silence.isSome = port.silence.isSome := by rfl) (gap : port'.gapReported = port.gapReported := by rfl)
    (classCode : port'.classCode = port.classCode := by rfl) (enable : port'.enable = port.enable := by rfl) :
    portLaw port' := by
  unfold portLaw
  rw [state, expected, revolution, silence, gap, classCode, enable]
  exact h

/-- What the law asks of a port's configuration. -/
def lawfulConfig (port : Port) : Prop := port.classCode ≤ 6 ∧ (port.enable = true → port.classCode ≠ 0)

theorem portLaw_config (h : portLaw port) : lawfulConfig port := by
  obtain ⟨-, -, -, -, -, classCode, classed, -, -⟩ := h
  exact ⟨classCode, classed⟩

/-- A port that examines frames is enabled (R36). -/
theorem portLaw_enabled (h : portLaw port) : examinesFrames port.state = true → port.enable = true := by
  obtain ⟨-, -, -, -, -, -, -, -, enabled⟩ := h
  exact enabled

/-- A port in a state that the enable lets it have, without expectation. -/
theorem idlePort_law {state : PortState} (config : lawfulConfig port) (quiet : state ≠ .streaming)
    (disabled : state = .disabled → port.enable = false) (enabled : examinesFrames state = true → port.enable = true) :
    portLaw (idlePort state port) :=
  ⟨by simp [idlePort, quiet], by simp [idlePort, quiet], by simp [idlePort, quiet], by simp [idlePort], by simp [idlePort],
    config.1, config.2, disabled, enabled⟩

/-- A port of the same state and the same sequencing, of another configuration. -/
theorem portLaw_reconfigured (h : portLaw port) (config : lawfulConfig port') (state : port'.state = port.state)
    (expected : port'.expected = port.expected) (revolution : port'.revolution = port.revolution)
    (silence : port'.silence = port.silence) (gap : port'.gapReported = port.gapReported)
    (quiet : port.state ≠ .streaming) (disabled : port'.state = .disabled → port'.enable = false)
    (enabled : examinesFrames port'.state = true → port'.enable = true) : portLaw port' := by
  obtain ⟨expected', revolution', silence', gap', -, -, -, -, -⟩ := h
  have none' : port'.expected = none := by simpa [← expected, quiet] using expected'
  refine ⟨by rw [expected, state, expected'], by rw [revolution, state, revolution'], by rw [silence, state, silence'], ?_,
    by simp [none'], config.1, config.2, disabled, enabled⟩
  rw [gap, state]
  exact gap'

theorem portCarrierLoss_law (h : portLaw port) : portLaw (portCarrierLoss port) :=
  portLaw_of_same (idlePort_law (state := .down) (portLaw_config h) (by decide) nofun nofun)

theorem portCarrierGain_law (h : portLaw port) : portLaw (portCarrierGain port) := by
  unfold portCarrierGain
  split
  · cases enable : port.enable
    · exact idlePort_law (state := .disabled) (portLaw_config h) (by decide) (fun _ => enable) nofun
    · exact idlePort_law (state := .waiting) (portLaw_config h) (by decide) nofun fun _ => enable
  · exact h

theorem clearedFault_law (h : portLaw port) : portLaw (clearedFault port) := by
  unfold clearedFault
  split_ifs with faulted
  · exact idlePort_law (portLaw_config h) (by decide) nofun fun _ => portLaw_enabled h (by rw [faulted]; rfl)
  · exact h

theorem default_port_law : portLaw {} := by
  simp [portLaw, examinesFrames]

/-! ### A port at a good slice -/

/-- The expected index stays within the class (R25, R26). -/
theorem expectedAfter_lt {n : Nat} {f : SliceFields} {payload : List Byte} (good : sliceGood n f payload = true) :
    expectedAfter n f < n := by
  simp only [sliceGood, Bool.and_eq_true, decide_eq_true_eq] at good
  unfold expectedAfter
  split_ifs <;> omega

/-- A port that streams with an expected index within its class. -/
theorem portLaw_streaming (config : lawfulConfig port) (enabled : port.enable = true) (state : port.state = .streaming)
    (expected : ∃ e, port.expected = some e ∧ e < (headClass port.classCode).samples) (revolution : port.revolution.isSome = true)
    (silence : port.silence.isSome = true) : portLaw port := by
  obtain ⟨e, some, within⟩ := expected
  refine ⟨by simp [some, state], by simp [revolution, state], by simp [silence, state], fun _ => state, ?_, config.1, config.2,
    by simp [state], fun _ => enabled⟩
  rintro _ h
  obtain rfl := Option.some.inj (some.symm.trans h)
  exact within

theorem sliceRevolution_law (f : SliceFields) (streams : port.state = .streaming) (h : portLaw port) :
    portLaw (sliceRevolution f port) := by
  obtain ⟨expected, revolution, silence, gap, within, config⟩ := h
  unfold sliceRevolution
  split
  · exact ⟨expected, by simp [streams], silence, by simp, within, config⟩
  · exact ⟨expected, revolution, silence, gap, within, config⟩

theorem sliceRevolution_state (f : SliceFields) (port : Port) : (sliceRevolution f port).state = port.state := by
  unfold sliceRevolution
  split <;> rfl

theorem sliceRevolution_classCode (f : SliceFields) (port : Port) : (sliceRevolution f port).classCode = port.classCode := by
  unfold sliceRevolution
  split <;> rfl

theorem sliceExpect_law {f : SliceFields} {payload : List Byte} (h : portLaw port) (streams : port.state = .streaming)
    (good : sliceGood (headClass port.classCode).samples f payload = true) : portLaw (sliceExpect f port) := by
  have revolution : port.revolution.isSome = true := by
    obtain ⟨-, revolution, -⟩ := h
    simpa [streams] using revolution
  have enabled : port.enable = true := portLaw_enabled h (by rw [streams]; rfl)
  have config := portLaw_config h
  exact portLaw_streaming config enabled streams ⟨_, rfl, expectedAfter_lt good⟩ revolution rfl

end

/-! ### CONFIGURE HEAD -/

/-- An accepted CONFIGURE HEAD carries a class with a row, or disables the port (R35). -/
theorem carriedConfig_lawful {payload : List Byte} (good : badHeadField payload = none)
    (classed : ¬(fieldU 1 1 payload = 0 ∧ fieldU 2 1 payload = 1)) :
    fieldU 1 1 payload ≤ 6 ∧ ((fieldU 2 1 payload == 1) = true → fieldU 1 1 payload ≠ 0) := by
  rw [badHeadField, firstBad_eq_none_iff] at good
  refine ⟨by simpa using good (2, decide (fieldU 1 1 payload ≤ 6)) (by simp), fun enabled none' => classed ⟨none', ?_⟩⟩
  simpa using enabled

/-- The table of R36: a port enabled stays or begins to wait, one disabled without carrier lost is DISABLED. -/
theorem movePort_law {before port : Port} (h : portLaw before) (config : lawfulConfig port) (state : port.state = before.state)
    (expected : port.expected = before.expected) (revolution : port.revolution = before.revolution)
    (silence : port.silence = before.silence) (gap : port.gapReported = before.gapReported) :
    portLaw (movePort before port.enable port) := by
  have kept (quiet : before.state ≠ .streaming) (disabled : port.state = .disabled → port.enable = false)
      (enabled : examinesFrames port.state = true → port.enable = true) : portLaw port :=
    portLaw_reconfigured h config state expected revolution silence gap quiet disabled enabled
  have shut (off : port.enable = false) : portLaw { idlePort .disabled port with warn := false, lastStatus := none } :=
    portLaw_of_same (idlePort_law (state := .disabled) config (by decide) (fun _ => off) nofun)
  have waits (on : port.enable = true) : portLaw (idlePort .waiting port) :=
    idlePort_law config (by decide) nofun fun _ => on
  have examining (quiet : before.state ≠ .streaming) (listens : before.state ≠ .disabled) :
      portLaw (if port.enable then port else { idlePort .disabled port with warn := false, lastStatus := none }) := by
    split_ifs with on
    · exact kept quiet (fun e => absurd (state.symm.trans e) listens) fun _ => on
    · exact shut (by simpa using on)
  unfold movePort
  cases before' : before.state with
  | down => exact kept (by simp [before']) (by simp [state, before']) (by simp [state, before', examinesFrames])
  | disabled =>
    dsimp only
    split_ifs with on
    · exact waits on
    · exact kept (by simp [before']) (fun _ => by simpa using on) (by simp [state, before', examinesFrames])
  | waiting => exact examining (by simp [before']) (by simp [before'])
  | silent => exact examining (by simp [before']) (by simp [before'])
  | faulted => exact examining (by simp [before']) (by simp [before'])
  | streaming =>
    dsimp only
    split_ifs with on same
    · obtain ⟨expected', revolution', -, -, within, -⟩ := h
      have some' : before.expected.isSome = true := by simp [expected', before']
      obtain ⟨e, some'⟩ := Option.isSome_iff_exists.mp some'
      refine portLaw_streaming config on (state.trans before') ⟨e, expected.trans some', ?_⟩ ?_ rfl
      · exact same ▸ within e some'
      · rw [revolution, revolution', before']
        rfl
    · exact waits on
    · exact shut (by simpa using on)

theorem configurePort_law {payload : List Byte} {port : Port} (h : portLaw port) (good : badHeadField payload = none)
    (classed : ¬(fieldU 1 1 payload = 0 ∧ fieldU 2 1 payload = 1)) : portLaw (configurePort payload port) :=
  movePort_law h (carriedConfig_lawful good classed) rfl rfl rfl rfl rfl

/-! ### Every port of a state -/

/-- Every port's record meets its law. -/
def lawfulPorts (s : State) : Prop := ∀ p, portLaw (s.ports.get p)

section
variable {s t : State}

theorem lawfulPorts_of_same (h : lawfulPorts s) (ports : t.ports = s.ports := by rfl) : lawfulPorts t := by
  unfold lawfulPorts
  rw [ports]
  exact h

theorem withPort_lawfulPorts {p : HeadId} {port : Port} (h : lawfulPorts s) (law : portLaw port) :
    lawfulPorts (s.withPort p port) := by
  intro q
  by_cases e : q = p
  · subst e
    simpa using law
  · simpa [PerHead.get_set_ne _ _ _ _ e] using h q

theorem Settled.lawful_ports (m : Settled s t) (h : lawfulPorts s) : lawfulPorts t := lawfulPorts_of_same h m.ports

theorem endEvent_lawfulPorts (h : lawfulPorts s) : lawfulPorts (endEvent s) := (endEvent_settled (.refl s)).lawful_ports h

theorem raiseSoft_lawfulPorts {source : Source} {detail : EventDetail} (h : lawfulPorts s) :
    lawfulPorts (raiseSoft source detail s) := (raiseSoft_settled (.refl s)).lawful_ports h

theorem leftFrom_lawfulPorts (before : PortState) (h : lawfulPorts s) : lawfulPorts (leftFrom before s) := by
  have started : lawfulPorts (startHeadLoss s) := by
    unfold startHeadLoss
    split_ifs
    exacts [h, h, lawfulPorts_of_same h]
  unfold leftFrom afterLeaving
  split_ifs
  exacts [(decideHalt_settled (progressTest_settled (.refl _))).lawful_ports started, h, h]

/-- A change of a port's counts alone. -/
theorem counted_lawfulPorts (p : HeadId) {port : Port} (h : lawfulPorts s) (state : port.state = (s.ports.get p).state := by rfl)
    (expected : port.expected = (s.ports.get p).expected := by rfl)
    (revolution : port.revolution = (s.ports.get p).revolution := by rfl)
    (silence : port.silence = (s.ports.get p).silence := by rfl)
    (gap : port.gapReported = (s.ports.get p).gapReported := by rfl)
    (classCode : port.classCode = (s.ports.get p).classCode := by rfl)
    (enable : port.enable = (s.ports.get p).enable := by rfl) : lawfulPorts (s.withPort p port) :=
  withPort_lawfulPorts h (portLaw_of_same (h p) state expected revolution (by rw [silence]) gap classCode enable)

theorem passOn_lawfulPorts {p : HeadId} {f : SliceFields} {payload : List Byte} (h : lawfulPorts s) :
    lawfulPorts (passOn p f payload s) := by
  unfold passOn
  split
  · exact (deliverSlice_settled (.refl _)).lawful_ports (counted_lawfulPorts p h)
  · exact h

section
variable {p : HeadId} {f : SliceFields} {payload : List Byte}

theorem synchronise_lawfulPorts (h : lawfulPorts s) (examines : examinesFrames (s.ports.get p).state = true)
    (good : sliceGood (headClass (s.ports.get p).classCode).samples f payload = true) : lawfulPorts (synchronise p f s) := by
  have entered {v : State} (hv : lawfulPorts v) : lawfulPorts (afterEntering v) := by
    unfold afterEntering
    split
    exacts [lawfulPorts_of_same hv, hv]
  have config := portLaw_config (h p)
  have enabled := portLaw_enabled (h p) examines
  exact entered (withPort_lawfulPorts h (portLaw_streaming config enabled rfl ⟨_, rfl, expectedAfter_lt good⟩ rfl rfl))

theorem sequenceSlice_lawfulPorts (h : lawfulPorts s) (streams : (s.ports.get p).state = .streaming)
    (good : sliceGood (headClass (s.ports.get p).classCode).samples f payload = true) : lawfulPorts (sequenceSlice p f s) := by
  have gapped (gaps : Nat) : portLaw { s.ports.get p with gaps := gaps, gapReported := true } := by
    obtain ⟨expected, revolution, silence, -, rest⟩ := h p
    exact ⟨expected, revolution, silence, fun _ => streams, rest⟩
  have gap : lawfulPorts (sliceGap p f s) ∧ ((sliceGap p f s).ports.get p).state = (s.ports.get p).state
      ∧ ((sliceGap p f s).ports.get p).classCode = (s.ports.get p).classCode := by
    unfold sliceGap
    dsimp only
    split_ifs
    · exact ⟨h, rfl, rfl⟩
    · exact ⟨withPort_lawfulPorts h (gapped _), by simp, by simp⟩
    · exact ⟨raiseSoft_lawfulPorts (withPort_lawfulPorts h (gapped _)), by simp, by simp⟩
  obtain ⟨law, state, classCode⟩ := gap
  rw [← state] at streams
  refine withPort_lawfulPorts law (sliceExpect_law (payload := payload) (sliceRevolution_law f streams (law p)) ?_ ?_)
  · rw [sliceRevolution_state, streams]
  · rw [sliceRevolution_classCode, classCode]
    exact good

theorem takeSlice_lawfulPorts (h : lawfulPorts s)
    (good : sliceGood (headClass (s.ports.get p).classCode).samples f payload = true) :
    lawfulPorts (takeSlice p f payload s) := by
  have entered (examines : examinesFrames (s.ports.get p).state = true) :
      lawfulPorts (if f.start = 0 then passOn p f payload (synchronise p f s) else countUnsynced p s) := by
    split
    exacts [passOn_lawfulPorts (synchronise_lawfulPorts h examines good), counted_lawfulPorts p h]
  unfold takeSlice
  cases state : (s.ports.get p).state with
  | waiting => exact entered (by rw [state]; rfl)
  | silent => exact entered (by rw [state]; rfl)
  | streaming => exact passOn_lawfulPorts (sequenceSlice_lawfulPorts h state good)
  | faulted => exact counted_lawfulPorts p h
  | down => exact h
  | disabled => exact h

theorem sliceArrives_lawfulPorts (h : lawfulPorts s) : lawfulPorts (sliceArrives p payload s) := by
  unfold sliceArrives
  dsimp only
  split_ifs with _ _ good
  exacts [h, counted_lawfulPorts p h, takeSlice_lawfulPorts h good, raiseSoft_lawfulPorts (counted_lawfulPorts p h)]

theorem silenceExpires_lawfulPorts (h : lawfulPorts s) : lawfulPorts (silenceExpires p s) := by
  unfold silenceExpires
  dsimp only
  split_ifs with due
  · have streamed : (s.ports.get p).state = .streaming := by simpa using (Bool.and_eq_true_iff.mp due).1
    have enabled := portLaw_enabled (h p) (by rw [streamed]; rfl)
    exact leftFrom_lawfulPorts .streaming (raiseSoft_lawfulPorts (withPort_lawfulPorts h
      (idlePort_law (portLaw_config (h p)) (by decide) nofun fun _ => enabled)))
  · exact h

theorem headStatusArrives_lawfulPorts (h : lawfulPorts s) : lawfulPorts (headStatusArrives p payload s) := by
  have status (last : LastStatus) (warn : Bool) : portLaw { clearedFault (s.ports.get p) with lastStatus := some last, warn := warn } :=
    portLaw_of_same (clearedFault_law (h p))
  have fault (code : Nat) (temperature : Int) (examines : examinesFrames (s.ports.get p).state = true) :
      lawfulPorts (statusFault p code temperature s) := by
    unfold statusFault
    dsimp only
    split_ifs
    · exact counted_lawfulPorts p h
    · exact leftFrom_lawfulPorts _ (raiseSoft_lawfulPorts (withPort_lawfulPorts h
        (idlePort_law (portLaw_config (h p)) (by decide) nofun fun _ => portLaw_enabled (h p) examines)))
  have warned (code : Nat) (temperature : Int) : lawfulPorts (statusWarn p code temperature s) := by
    unfold statusWarn
    dsimp only
    split_ifs
    · exact withPort_lawfulPorts h (status _ _)
    · exact raiseSoft_lawfulPorts (withPort_lawfulPorts h (status _ _))
  unfold headStatusArrives
  split_ifs with examines
  · exact h
  · exact counted_lawfulPorts p h
  · split
    exacts [counted_lawfulPorts p h, fault _ _ (by simpa using examines), warned _ _, withPort_lawfulPorts h (status _ _)]

end

theorem Carried.lawful_ports {p : List Byte} (c : Carried p s t) (h : lawfulPorts s) : lawfulPorts t := by
  cases c with
  | committed st _ _ _ _ =>
    refine lawfulPorts_of_same h ?_
    unfold installTarget
    split <;> rfl
  | headConfigured q _ good classed _ => exact withPort_lawfulPorts h (configurePort_law (h q) good classed)
  | started _ =>
    unfold startLinkLossIfDown startLinkLoss startHeadLoss
    split_ifs <;> exact lawfulPorts_of_same h
  | stopped _ => exact (drain_settled s).lawful_ports h
  | _ => exact lawfulPorts_of_same h

theorem powerOnWith_lawfulPorts (lines : PowerLines) (s : State) : lawfulPorts (powerOnWith lines s) := by
  have started (carrier : Bool) : portLaw (if carrier then portCarrierGain {} else {}) := by
    split
    exacts [portCarrierGain_law default_port_law, default_port_law]
  intro p
  cases p <;> exact started _

theorem exec_lawfulPorts {c : Instr} (h : lawfulPorts s) (hexec : exec c s = .next t) : lawfulPorts t := by
  have taking (isKind : Nat → Bool) (k : Nat) : lawfulPorts (takeRequest isKind (requestBody k) s) := by
    rcases takeRequest_taken isKind k s with e | ⟨r, rest, -, e⟩ <;> rw [e]
    · exact h
    · have begun : lawfulPorts (beginTaking rest s) := lawfulPorts_of_same h
      exact lawfulPorts_of_same ((requestBody_carried k r.payload (beginTaking rest s)).lawful_ports begun)
  have due (b : Bool) {v : State} (hv : lawfulPorts v) : lawfulPorts (if b then endEvent v else s) := by
    split
    exacts [endEvent_lawfulPorts hv, h]
  have inbound (f : Management → Management) : lawfulPorts (receiveInbound f s) := lawfulPorts_of_same h (by simp)
  cases exec_course hexec with
  | taking k _ _ _ => exact taking _ k
  | unknown _ => exact taking _ 0
  | powerOn lines _ => exact powerOnWith_lawfulPorts lines s
  | resetInput _ => exact powerOnWith_lawfulPorts _ s
  | headCarrierLoss p _ =>
    exact endEvent_lawfulPorts (leftFrom_lawfulPorts _ (withPort_lawfulPorts h (portCarrierLoss_law (h p))))
  | headCarrierGain p _ => exact endEvent_lawfulPorts (withPort_lawfulPorts h (portCarrierGain_law (h p)))
  | headFrameTooLong p _ =>
    unfold frameTooLong
    split_ifs
    exacts [endEvent_lawfulPorts (counted_lawfulPorts p h), endEvent_lawfulPorts h]
  | headFrameDiscarded p kind payload crc _ =>
    apply endEvent_lawfulPorts
    unfold frameDiscarded
    split_ifs
    exacts [h, counted_lawfulPorts p h, counted_lawfulPorts p h, counted_lawfulPorts p h, h]
  | slice p payload _ => exact endEvent_lawfulPorts (sliceArrives_lawfulPorts h)
  | headStatus p payload _ => exact endEvent_lawfulPorts (headStatusArrives_lawfulPorts h)
  | silenceTimerExpiry p _ => exact endEvent_lawfulPorts (silenceExpires_lawfulPorts h)
  | encoderTransition w p1 p2 _ => exact endEvent_lawfulPorts (lawfulPorts_of_same h)
  | odometryIntervalExpiry _ => exact due _ (lawfulPorts_of_same h (intervalExpires_reported (.refl s)).ports)
  | markerDetection _ => exact endEvent_lawfulPorts (lawfulPorts_of_same h (detectMarker_reported (.refl s)).ports)
  | closeTimerExpiry j _ =>
    rcases closeTimerExpires_cases j s with e | e <;> rw [e]
    · exact h
    · exact endEvent_lawfulPorts ((decideHalt_settled (closeAll_settled (.refl s))).lawful_ports h)
  | alertHoldExpiry _ => exact due _ (lawfulPorts_of_same h)
  | headLossTimerExpiry _ => exact due _ ((takeHardFault_settled (.refl _)).lawful_ports (lawfulPorts_of_same h))
  | linkLossTimerExpiry _ => exact due _ ((takeHardFault_settled (.refl _)).lawful_ports (lawfulPorts_of_same h))
  | trunkLinkDown _ =>
    obtain ⟨-, ports, -⟩ := abandon_settled (s.withQueue { s.queue with linkUp := false })
    have lost : lawfulPorts (abandon (s.withQueue { s.queue with linkUp := false })) := lawfulPorts_of_same h ports
    apply endEvent_lawfulPorts
    unfold linkDown startLinkLoss
    split
    exacts [lawfulPorts_of_same lost, lost]
  | trunkLinkUp _ => exact endEvent_lawfulPorts (lawfulPorts_of_same h)
  | transmissionComplete _ =>
    apply endEvent_lawfulPorts
    have ended (r : Record) {v : State} (hv : lawfulPorts v) : lawfulPorts (completeRunEnd r v) := by
      unfold completeRunEnd
      split
      · split_ifs
        exacts [lawfulPorts_of_same hv, hv]
      · exact hv
    cases e : sendingRecord s.queue with
    | none => rw [completeTransmission_of_idle e]; exact h
    | some r =>
      have left : lawfulPorts (recordLeft { s.queue.counters with transmitted := inc32 s.queue.counters.transmitted } s) :=
        lawfulPorts_of_same h
      rw [completeTransmission_of_sending e]
      exact lawfulPorts_of_same (ended r left)
  | trunkFrameTooLong _ => exact endEvent_lawfulPorts (inbound _)
  | trunkFrameDiscarded kind payload crc _ => exact endEvent_lawfulPorts (inbound _)
  | request tag kind payload _ => exact endEvent_lawfulPorts (inbound _)
  | timebaseAdvance _ =>
    apply endEvent_lawfulPorts
    intro p
    have ticked : portLaw { s.ports.get p with silence := tickTimer (s.ports.get p).silence } :=
      portLaw_of_same (h p) (silence := by simp [tickTimer])
    show portLaw ((s.ports.map fun port => { port with silence := tickTimer port.silence }).get p)
    rw [PerHead.get_map]
    exact ticked

end

/-! ### The counts of a head -/

/-- A sample examined is counted once more (R41). -/
theorem countSample_law {c : Corrector} (r : SampleResult) (h : correctorLaw c) : correctorLaw (countSample c r) := by
  unfold correctorLaw at h
  cases r with
  | accepted point =>
    simp only [correctorLaw, countSample, inc32, satAdd, count32]
    omega
  | discarded d =>
    cases d <;> (simp only [correctorLaw, countSample, inc32, satAdd, count32]; omega)

theorem foldl_countSample_law (rs : List SampleResult) {c : Corrector} (h : correctorLaw c) :
    correctorLaw (rs.foldl countSample c) := by
  induction rs generalizing c with
  | nil => exact h
  | cons r rest ih => exact ih (countSample_law r h)

/-- Every head's counts add up. -/
def lawfulCounts (s : State) : Prop := ∀ p, correctorLaw (s.correctors.get p)

section
variable {s t : State}

theorem lawfulCounts_of_same (h : lawfulCounts s) (correctors : t.correctors = s.correctors := by rfl) : lawfulCounts t := by
  unfold lawfulCounts
  rw [correctors]
  exact h

theorem Settled.lawful_counts (m : Settled s t) (h : lawfulCounts s) : lawfulCounts t := by
  intro p
  obtain ⟨rs, e⟩ := m.samples p
  rw [e]
  exact foldl_countSample_law rs (h p)

theorem withCorrector_lawfulCounts {p : HeadId} {c : Corrector} (h : lawfulCounts s) (law : correctorLaw c) :
    lawfulCounts (s.withCorrector p c) := by
  intro q
  by_cases e : q = p
  · subst e
    simpa using law
  · simpa [State.withCorrector, PerHead.get_set_ne _ _ _ _ e] using h q

theorem Carried.lawful_counts {p : List Byte} (c : Carried p s t) (h : lawfulCounts s) : lawfulCounts t := by
  cases c with
  | committed st _ _ _ _ =>
    have installed : lawfulCounts (installTarget st s) := by
      unfold installTarget
      split
      exacts [lawfulCounts_of_same h, withCorrector_lawfulCounts h (h _)]
    exact lawfulCounts_of_same installed
  | masked q _ => exact withCorrector_lawfulCounts h (h q)
  | started _ =>
    unfold startLinkLossIfDown startLinkLoss startHeadLoss
    split_ifs <;> exact lawfulCounts_of_same h
  | stopped _ => exact (drain_settled s).lawful_counts h
  | _ => exact lawfulCounts_of_same h

theorem lawfulCounts_invariant : EventInvariant lawfulCounts where
  same := fun units h => lawfulCounts_of_same h units.correctors
  settled := Settled.lawful_counts
  encoder := fun _ _ _ h => lawfulCounts_of_same h
  interval := fun {s} h => lawfulCounts_of_same h (intervalExpires_reported (.refl s)).correctors
  marker := fun {s} h => lawfulCounts_of_same h (detectMarker_reported (.refl s)).correctors
  released := fun h => lawfulCounts_of_same h
  ended := fun _ h => lawfulCounts_of_same h
  ticked := fun h => lawfulCounts_of_same h
  carried := Carried.lawful_counts
  powered := fun lines s p => by cases p <;> exact fun _ => rfl

end

/-- Settles O57: every change of a port's record is one of the few that `portLaw` is shown for, and a sample is counted once. -/
theorem portAndCorrectorKept : Obligations.PortAndCorrectorKept := by
  intro s t ports counts hstep
  exact step_keeps (fun s => lawfulPorts s ∧ lawfulCounts s) (fun _ _ h => h)
    (fun _ _ _ ⟨ports, counts⟩ hexec => ⟨exec_lawfulPorts ports hexec, lawfulCounts_invariant.exec_keeps counts hexec⟩)
    ⟨ports, counts⟩ hstep

end Sys2Proof.Machine

/-! Steps, the values after reset, the passing of time (R2 to R5, R18), the encoder (R61) and the arbiter (R149). -/

namespace Sys2Proof.Machine

/-- Settles O1. -/
theorem stepTakesFrontCommand : Obligations.StepTakesFrontCommand :=
  ⟨fun c rest s queue => by simp [step, queue], fun s queue => by simp [step, queue]⟩

/-! ### The values after reset -/

/-- Settles O2: every block of `State.reset` holds its field defaults, and a table without entries reads as its default. -/
theorem resetValues : Obligations.ResetValues := by
  refine ⟨rfl, ?_, ?_, ?_, rfl, rfl, rfl, fun _ => rfl, rfl, fun _ => rfl, fun _ => rfl, rfl, rfl, rfl, rfl, rfl, rfl, rfl, rfl, rfl⟩
  · intro p
    cases p <;> rfl
  · intro p
    cases p <;> rfl
  · intro w wheel
    rcases List.mem_pair.mp wheel with rfl | rfl <;> exact ⟨rfl, rfl, rfl, rfl, rfl⟩

/-- A port at its reset values takes carrier to DISABLED (R37). -/
theorem carrier_port (carrier : Bool) :
    (if carrier then portCarrierGain {} else {} : Port) = { state := if carrier then .disabled else .down } := by
  cases carrier <;> rfl

/-- Settles O3: the reset input reads the lines from the state. -/
theorem powerOnAndResetInput : Obligations.PowerOnAndResetInput := by
  constructor
  · intro lines s
    show Host.Outcome.next (powerOnWith lines s) = _
    unfold powerOnWith
    dsimp only
    rw [carrier_port, carrier_port, carrier_port]
  · intro s
    have carrier (state : PortState) : (state != .down) = decide (state ≠ .down) := by cases state <;> rfl
    show Host.Outcome.next (powerOnWith (linesOf s) s) = Host.Outcome.next (powerOnWith _ s)
    rw [linesOf, carrier, carrier, carrier]

/-- Settles O4: the passing of a microsecond is the wrap of the timebase and the tick of every timer, by definition. -/
theorem timebaseAdvances : Obligations.TimebaseAdvances := fun _ => rfl

/-- The laws of the queue and of the Management Unit hold of empty lists. -/
theorem reset_queue_laws : levelLaw State.reset.queue ∧ capacityLaw State.reset.queue ∧ transmitterLaw State.reset.queue
    ∧ holderLaw State.reset.queue :=
  ⟨⟨Nat.zero_le 0, Nat.zero_le 5⟩, ⟨Nat.zero_le 65536, Nat.zero_le 61440, rfl⟩, fun _ => ⟨rfl, rfl⟩, Nat.zero_le 2,
    fun _ h => absurd h List.not_mem_nil, fun _ h => nomatch h⟩

/-- The laws of the run hold with no context open, C equal to H and no timer but the interval's running. -/
theorem reset_run_laws : contextLaw State.reset ∧ accumulatorLaw State.reset.assembler ∧ closureLaw State.reset
    ∧ chainageLaw State.reset ∧ correctionLaw State.reset ∧ lossTimerLaw State.reset ∧ wheelLaw State.reset.odo := by
  refine ⟨⟨.nil, Nat.zero_le 8, fun _ h => absurd h List.not_mem_nil, fun _ => rfl⟩,
    fun _ h => absurd h List.not_mem_nil, ⟨Nat.zero_le 4294967295, fun _ => rfl⟩, ?chainage,
    ⟨Nat.zero_le 5000, fun _ => rfl⟩, ⟨rfl, rfl⟩, nofun, Nat.zero_lt_succ 7, fun _ => rfl, Nat.zero_lt_succ 65535,
    Nat.zero_lt_succ 65535, .inl rfl⟩
  case chainage => exact ⟨rfl, fun behind => absurd behind (Nat.not_lt_zero _), fun _ => rfl, fun _ => rfl⟩

/-- Settles O49: with every table and list empty, every counter 0 and no timer but the interval's running, each law is plain. -/
theorem resetMeetsTheLaws : Obligations.ResetMeetsTheLaws := by
  have ports : ∀ p, portLaw (State.reset.ports.get p) := fun p => by cases p <;> exact default_port_law
  have counts : ∀ p, correctorLaw (State.reset.correctors.get p) := fun p => by cases p <;> exact fun _ => rfl
  have bounds : responseBounds State.reset := ⟨Nat.zero_le 8, Nat.zero_le 4, fun h => by cases h <;> rfl⟩
  obtain ⟨markers, library, table, staging, target, params, settings⟩ :=
    reset_in_range ⟨false, false, false, false, false, false, false, false⟩ State.reset
  obtain ⟨level, capacity, transmitter, holder⟩ := reset_queue_laws
  obtain ⟨context, accumulator, closure, chainage, correction, timers, wheels⟩ := reset_run_laws
  exact ⟨level, capacity, bounds, transmitter, holder, Nat.zero_le 4, context, accumulator, closure, chainage, correction, timers,
    rfl, wheels, rfl, ports, counts, table, fun _ => rfl, ⟨nofun, nofun⟩, markers, library, staging, target, params, settings⟩

/-! ### Encoder lines -/

/-- The forward order of R61, pair by pair. -/
def forwardSteps : List ((Bool × Bool) × (Bool × Bool)) :=
  [((false, false), (false, true)), ((false, true), (true, true)), ((true, true), (true, false)), ((true, false), (false, false))]

/-- Of the changes of one line, the forward ones advance the place in the order by one. -/
theorem quadraturePlace_forward (x y p1 p2 : Bool) :
    (quadraturePlace x y + 1) % 4 = quadraturePlace p1 p2 ↔ ((x, y), (p1, p2)) ∈ forwardSteps := by
  revert x y p1 p2
  decide

/-- Settles O18. -/
theorem encoderTransitions : Obligations.EncoderTransitions := by
  intro s p1 p2 forward after
  have stepped (w : WheelRecord) : encoderStep p1 p2 w = after w := by
    unfold encoderStep
    simp only [quadraturePlace_forward]
    rfl
  constructor
  · rw [← stepped]
    rfl
  · rw [← stepped]
    rfl

/-! ### The arbiter -/

/-- The choice of R149 for an idle transmitter. -/
theorem arbitrate_idle {q : Outbound} (idle : q.sending = none) (up : q.linkUp = true) :
    arbitrate q = { q with sending := if q.control ≠ [] then some .control else if q.data ≠ [] then some .data else none } := by
  obtain ⟨control, data, sending, linkUp, _⟩ := q
  obtain rfl : sending = none := idle
  obtain rfl : linkUp = true := up
  cases control with
  | cons => rfl
  | nil => cases data <;> rfl

/-- Settles O26. -/
theorem arbiterChoosesOldestControl : Obligations.ArbiterChoosesOldestControl := by
  intro s
  show s.withQueue (arbitrate s.queue) = _
  by_cases free : s.queue.sending = none ∧ s.queue.linkUp = true
  · rw [arbitrate_idle free.1 free.2, if_pos free]
    rfl
  · have busy : ¬(s.queue.sending.isNone && s.queue.linkUp) = true := by simpa using free
    rw [arbitrate, if_neg busy, if_neg free]
    rfl

end Sys2Proof.Machine

/-! Fields read back from the payloads that carry them (R196 to R198), and the frames of the head links (R21 to R28). -/

namespace Sys2Proof.Machine

/-! ### Fields at the front and further on -/

section
variable {off w w' n : Nat} {x : Int} {b : Bool} {rest : List Byte}

theorem fieldU_front (h : n < 256 ^ w) : fieldU 0 w (encU w n ++ rest) = n := fieldU_encU (pre := []) rfl h

theorem fieldU_whole (h : n < 256 ^ w) : fieldU 0 w (encU w n) = n := by
  have field := fieldU_front (rest := []) h
  rwa [List.append_nil] at field

theorem fieldI_front (lo : -(256 ^ w / 2 : Int) ≤ x) (hi : x < 256 ^ w / 2) : fieldI 0 w (encI w x ++ rest) = x :=
  fieldI_encI (pre := []) rfl lo hi

theorem fieldI_whole (lo : -(256 ^ w / 2 : Int) ≤ x) (hi : x < 256 ^ w / 2) : fieldI 0 w (encI w x) = x := by
  have field := fieldI_front (rest := []) lo hi
  rwa [List.append_nil] at field

/-- A flag reads back as its code (R196). -/
theorem fieldU_front_encB : fieldU 0 1 (encB b ++ rest) = if b then 1 else 0 := by
  cases b <;> exact fieldU_front (by decide)

theorem fieldU_skip (pre : List Byte) (h : pre.length ≤ off) : fieldU off w (pre ++ rest) = fieldU (off - pre.length) w rest := by
  rw [fieldU, List.drop_append, List.drop_of_length_le h, List.nil_append, fieldU]

theorem fieldI_skip (pre : List Byte) (h : pre.length ≤ off) : fieldI off w (pre ++ rest) = fieldI (off - pre.length) w rest := by
  unfold fieldI
  rw [fieldU_skip pre h]

theorem fieldU_skip_encU (h : w' ≤ off) : fieldU off w (encU w' n ++ rest) = fieldU (off - w') w rest := by
  rw [fieldU_skip _ (by simpa using h), length_encU]

theorem fieldU_skip_encI (h : w' ≤ off) : fieldU off w (encI w' x ++ rest) = fieldU (off - w') w rest := by
  rw [fieldU_skip _ (by simpa using h), length_encI]

theorem fieldI_skip_encU (h : w' ≤ off) : fieldI off w (encU w' n ++ rest) = fieldI (off - w') w rest := by
  rw [fieldI_skip _ (by simpa using h), length_encU]

theorem fieldI_skip_encI (h : w' ≤ off) : fieldI off w (encI w' x ++ rest) = fieldI (off - w') w rest := by
  rw [fieldI_skip _ (by simpa using h), length_encI]

theorem fieldU_skip_encB (h : 1 ≤ off) : fieldU off w (encB b ++ rest) = fieldU (off - 1) w rest := fieldU_skip_encU h

theorem fieldI_skip_encB (h : 1 ≤ off) : fieldI off w (encB b ++ rest) = fieldI (off - 1) w rest := fieldI_skip_encU h

end

/-! ### Items of one width behind one another -/

section
variable {α : Type} {f : α → List Byte} {k : Nat} {l : List α}

/-- The item at a place of a list of items of one width. -/
theorem drop_flatMap (h : ∀ x ∈ l, (f x).length = k) {i : Nat} (hi : i < l.length) :
    (l.flatMap f).drop (k * i) = f l[i] ++ (l.drop (i + 1)).flatMap f := by
  induction l generalizing i with
  | nil => exact absurd hi (Nat.not_lt_zero i)
  | cons x rest ih =>
    cases i with
    | zero => simp
    | succ i =>
      have front : (f x).length = k := h x (List.mem_cons_self ..)
      rw [List.flatMap_cons, Nat.mul_succ, List.drop_append, List.drop_of_length_le (by omega), front, Nat.add_sub_cancel,
        List.nil_append, ih (fun y hy => h y (List.mem_cons_of_mem x hy)) (Nat.lt_of_succ_lt_succ hi)]
      rfl

/-- A field within an item. -/
theorem fieldU_flatMap (h : ∀ x ∈ l, (f x).length = k) {i : Nat} (hi : i < l.length) (off w : Nat) (tail : List Byte) :
    fieldU (k * i + off) w (l.flatMap f ++ tail) = fieldU off w (f l[i] ++ ((l.drop (i + 1)).flatMap f ++ tail)) := by
  have whole : k * i ≤ (l.flatMap f).length := by
    rw [length_flatMap_of_forall h]
    exact Nat.mul_le_mul_left k hi.le
  unfold fieldU
  rw [← List.drop_drop, List.drop_append_of_le_length whole, drop_flatMap h hi, List.append_assoc]

end

/-! ### SLICE payloads -/

section
variable {n revolution start : Nat} {samples : List Sample}

/-- The bytes of one sample (R197). -/
def sampleBytes (x : Sample) : List Byte := encU 2 x.raw ++ encU 1 x.intensity

theorem length_sampleBytes (x : Sample) : (sampleBytes x).length = 3 := by simp [sampleBytes]

theorem slicePayload_eq (revolution start : Nat) (samples : List Sample) :
    slicePayload revolution start samples
      = encU 2 revolution ++ (encU 2 start ++ (encU 2 samples.length ++ samples.flatMap sampleBytes)) := by
  simp only [slicePayload, List.append_assoc]
  rfl

theorem length_slicePayload (revolution start : Nat) (samples : List Sample) :
    (slicePayload revolution start samples).length = 6 + 3 * samples.length := by
  simp only [slicePayload_eq, List.length_append, length_encU,
    length_flatMap_of_forall fun x (_ : x ∈ samples) => length_sampleBytes x]
  omega

theorem sliceFields_slicePayload (good : SliceIsGood n revolution start samples) :
    sliceFields (slicePayload revolution start samples) = ⟨revolution, start, samples.length⟩ := by
  obtain ⟨revolutionFits, startFits, -, notTooMany, -, -⟩ := good
  have held (off : Nat) (h : off ≤ 4) :
      heldField off (slicePayload revolution start samples) = fieldU off 2 (slicePayload revolution start samples) := by
    rw [heldField, if_pos (by rw [length_slicePayload]; omega)]
  rw [sliceFields, held 0 (by omega), held 2 (by omega), held 4 (by omega), slicePayload_eq]
  simp (disch := omega) only [fieldU_front, fieldU_skip_encU, Nat.reduceSub]

theorem sampleFields {x : Sample} {rest : List Byte} (raw : x.raw ≤ 65535) (intensity : x.intensity ≤ 255) :
    fieldU 0 2 (sampleBytes x ++ rest) = x.raw ∧ fieldU 2 1 (sampleBytes x ++ rest) = x.intensity := by
  rw [sampleBytes, List.append_assoc]
  simp (disch := omega) only [fieldU_front, fieldU_skip_encU, Nat.reduceSub, and_self]

/-- The samples of a SLICE read back. -/
theorem sliceSamples_slicePayload (good : SliceIsGood n revolution start samples) :
    sliceSamples samples.length (slicePayload revolution start samples) = samples := by
  refine List.ext_getElem (by simp [sliceSamples]) fun i _ hi => ?_
  obtain ⟨raw, intensity⟩ := good.fields samples[i] (List.getElem_mem hi)
  have field (off w : Nat) : fieldU (6 + (3 * i + off)) w (slicePayload revolution start samples)
      = fieldU off w (sampleBytes samples[i] ++ ((samples.drop (i + 1)).flatMap sampleBytes ++ [])) := by
    rw [slicePayload_eq]
    simp (disch := omega) only [fieldU_skip_encU]
    rw [show 6 + (3 * i + off) - 2 - 2 - 2 = 3 * i + off by omega,
      ← fieldU_flatMap (fun x _ => length_sampleBytes x) hi, List.append_nil]
  obtain ⟨rawField, intensityField⟩ := sampleFields (rest := (samples.drop (i + 1)).flatMap sampleBytes ++ []) raw intensity
  have first := field 0 2
  have second := field 2 1
  simp only [sliceSamples, List.getElem_map, List.getElem_range]
  rw [show 6 + 3 * i = 6 + (3 * i + 0) from rfl, first, show 8 + 3 * i = 6 + (3 * i + 2) by omega, second, rawField, intensityField]

theorem sliceGood_slicePayload (good : SliceIsGood n revolution start samples) :
    sliceGood n ⟨revolution, start, samples.length⟩ (slicePayload revolution start samples) = true := by
  obtain ⟨-, -, notEmpty, notTooMany, within, -⟩ := good
  simp only [sliceGood, length_slicePayload, Bool.and_eq_true, decide_eq_true_eq]
  exact ⟨⟨⟨⟨Nat.le_add_right _ _, notEmpty⟩, notTooMany⟩, trivial⟩, within⟩

/-- A good SLICE is not discarded by a row of R22: its port takes it. -/
theorem exec_slice_good {p : HeadId} {s : State} (examines : examinesFrames (s.ports.get p).state = true)
    (good : SliceIsGood (headClass (s.ports.get p).classCode).samples revolution start samples) :
    exec (.slice p (slicePayload revolution start samples)) s
      = .next (endEvent (takeSlice p ⟨revolution, start, samples.length⟩ (slicePayload revolution start samples) s)) := by
  have short : ¬headPayloadLimit < (slicePayload revolution start samples).length := by
    rw [length_slicePayload, headPayloadLimit]
    have := good.notTooMany
    omega
  have arrives : sliceArrives p (slicePayload revolution start samples) s
      = takeSlice p ⟨revolution, start, samples.length⟩ (slicePayload revolution start samples) s := by
    unfold sliceArrives
    dsimp only
    rw [examines, if_neg (by decide), if_neg short, sliceFields_slicePayload good, if_pos (sliceGood_slicePayload good)]
  rw [← arrives]
  rfl

end

/-! ### Carrier and silence outside RUNNING -/

/-- Settles O5. -/
theorem portLeavesByCarrierOrSilence : Obligations.PortLeavesByCarrierOrSilence := by
  refine ⟨⟨fun p s stays => ?_, fun p s down => ?_⟩, fun p s expected current streams due some some' idle => ?_⟩
  · have left : leftFrom (s.ports.get p).state (s.withPort p (portCarrierLoss (s.ports.get p)))
        = s.withPort p (portCarrierLoss (s.ports.get p)) := leftFrom_eq_self stays
    show Host.Outcome.next (endEvent (leftFrom _ _)) = _
    rw [left]
    rfl
  · show Host.Outcome.next (endEvent (s.withPort p (portCarrierGain (s.ports.get p)))) = _
    rw [portCarrierGain, if_pos down]
    rfl
  · have expires : silenceExpires p s
        = raiseSoft (.port p) (.headSilent current expected) (s.withPort p (idlePort .silent (s.ports.get p))) := by
      unfold silenceExpires afterLeaving
      simp [streams, due, timerExpires, some, some', idle]
    show Host.Outcome.next (endEvent (silenceExpires p s)) = _
    rw [expires]
    rfl

/-! ### Frames that are discarded -/

/-- Of the port states only DOWN and DISABLED examine no frame (R22). -/
theorem examinesFrames_iff (state : PortState) : examinesFrames state = true ↔ ¬(state = .down ∨ state = .disabled) := by
  cases state <;> decide

/-- The rows of R22 for a SLICE, in the fields of the payload. -/
theorem sliceGood_iff (n : Nat) (payload : List Byte) :
    sliceGood n (sliceFields payload) payload = true
      ↔ 6 ≤ payload.length ∧ 1 ≤ fieldU 4 2 payload ∧ fieldU 4 2 payload ≤ 256 ∧ payload.length = 6 + 3 * fieldU 4 2 payload
        ∧ fieldU 2 2 payload + fieldU 4 2 payload ≤ n := by
  have rows (f : SliceFields) : sliceGood n f payload = true
      ↔ 6 ≤ payload.length ∧ 1 ≤ f.count ∧ f.count ≤ 256 ∧ payload.length = 6 + 3 * f.count ∧ f.start + f.count ≤ n := by
    simp only [sliceGood, Bool.and_eq_true, decide_eq_true_eq, and_assoc]
  refine (rows _).trans (and_congr_right fun long => ?_)
  have start : (sliceFields payload).start = fieldU 2 2 payload := if_pos (by omega)
  have count : (sliceFields payload).count = fieldU 4 2 payload := if_pos long
  rw [start, count]

/-- Settles O7. -/
theorem badHeadFrames : Obligations.BadHeadFrames := by
  refine ⟨⟨fun p s => ?_, fun p kind payload crc s short => ?_⟩, fun p s payload up enabled short bad => ?_⟩
  · show Host.Outcome.next (endEvent (frameTooLong p s)) = _
    simp only [frameTooLong, examinesFrames_iff, ite_not]
    rfl
  · have within : ¬headPayloadLimit < payload.length := Nat.not_lt.mpr short
    show Host.Outcome.next (endEvent (frameDiscarded p kind payload crc s)) = _
    simp only [frameDiscarded, Bool.not_eq_true', ← Bool.not_eq_true, examinesFrames_iff, not_not, if_neg within]
    rfl
  · have examines := examinesFrames_of_ne up enabled
    have within : ¬headPayloadLimit < payload.length := Nat.not_lt.mpr short
    have malformed : sliceArrives p payload s = malformedSlice p (sliceFields payload) s := by
      unfold sliceArrives
      dsimp only
      rw [examines, if_neg (by decide), if_neg within, if_neg (fun good => bad ((sliceGood_iff _ payload).mp good))]
    show Host.Outcome.next (endEvent (sliceArrives p payload s)) = _
    rw [malformed]
    rfl

/-! ### A good slice -/

@[simp] theorem State.withPort_get (s : State) (p : HeadId) : s.withPort p (s.ports.get p) = s := by
  cases p <;> rfl

@[simp] theorem State.withPort_withPort (s : State) (p : HeadId) (x y : Port) :
    (s.withPort p x).withPort p y = s.withPort p y := by
  cases p <;> rfl

/-- A port's record is no part of a soft fault. -/
theorem raiseSoft_withPort (source : Source) (detail : EventDetail) (p : HeadId) (port : Port) (s : State) :
    raiseSoft source detail (s.withPort p port) = (raiseSoft source detail s).withPort p port := by
  have offered (e : EventRecord) : offerEvent e (s.withPort p port) = (offerEvent e s).withPort p port := by
    unfold offerEvent
    rw [State.withPort_queue]
    split_ifs <;> rfl
  unfold raiseSoft
  dsimp only
  rw [show makeEvent (s.withPort p port) source detail = makeEvent s source detail from rfl, offered]
  rfl

/-- A port's record is no part of Fault Capture. -/
theorem State.withPort_withFaults (s : State) (p : HeadId) (x : FaultCapture) (port : Port) :
    (s.withFaults x).withPort p port = (s.withPort p port).withFaults x := rfl

/-- In RUNNING an accepted slice is passed on with the stamps of R32. -/
theorem passOn_of_running {p : HeadId} {f : SliceFields} {payload : List Byte} {s : State} {port : Port}
    (running : s.run.runState = .running) (turned : s.ports.get p = port) :
    passOn p f payload s
      = deliverSlice
          { head := p, revolution := port.revolution.getD 0, start := f.start, samples := sliceSamples f.count payload
            arrival := s.run.timebase, chainage := s.odo.c, warn := port.warn, gap := port.gapReported }
          (s.withPort p { port with passedOn := inc32 port.passedOn }) := by
  subst turned
  exact if_pos running

/-- Settles O8. -/
theorem sliceSynchronises : Obligations.SliceSynchronises := by
  intro p s revolution start samples good entered
  have waits (h : (s.ports.get p).state = .waiting ∨ (s.ports.get p).state = .silent) :
      examinesFrames (s.ports.get p).state = true := by
    rcases h with h | h <;> rw [h] <;> rfl
  have taken (h : (s.ports.get p).state = .waiting ∨ (s.ports.get p).state = .silent) :
      takeSlice p ⟨revolution, start, samples.length⟩ (slicePayload revolution start samples) s
        = if start = 0 then
            passOn p ⟨revolution, start, samples.length⟩ (slicePayload revolution start samples)
              (synchronise p ⟨revolution, start, samples.length⟩ s)
          else countUnsynced p s := by
    unfold takeSlice
    rcases h with h | h <;> rw [h]
  refine ⟨fun state front idle => ?_, fun state front running => ?_, fun off => ?_⟩
  · subst front
    have synchronised : synchronise p ⟨revolution, 0, samples.length⟩ s = s.withPort p entered := by
      unfold synchronise afterEntering
      dsimp only
      rw [State.withPort_run, if_neg idle]
      simp only [expectedAfter, Nat.zero_add]
      rfl
    rw [exec_slice_good (waits state) good, taken state, if_pos rfl, passOn, synchronised, State.withPort_run, if_neg idle]
    rfl
  · subst front
    have synchronised : synchronise p ⟨revolution, 0, samples.length⟩ s
        = (s.withPort p entered).withFaults { s.faults with headLoss := none } := by
      unfold synchronise afterEntering
      dsimp only
      rw [State.withPort_run, if_pos running]
      simp only [expectedAfter, Nat.zero_add]
      rfl
    have turned : ((s.withPort p entered).withFaults { s.faults with headLoss := none }).ports.get p = entered :=
      PerHead.get_set _ _ _
    rw [exec_slice_good (waits state) good, taken state, if_pos rfl, synchronised,
      passOn_of_running (s := (s.withPort p entered).withFaults { s.faults with headLoss := none }) running turned,
      sliceSamples_slicePayload good, State.withPort_withFaults, State.withPort_withPort]
    rfl
  · have counted : takeSlice p ⟨revolution, start, samples.length⟩ (slicePayload revolution start samples) s
        = countUnsynced p s := by
      rcases off with ⟨state, later⟩ | state
      · rw [taken state, if_neg later]
      · unfold takeSlice
        rw [state]
    have examines : examinesFrames (s.ports.get p).state = true := by
      rcases off with ⟨state, -⟩ | state
      · exact waits state
      · rw [state]
        rfl
    rw [exec_slice_good examines good, counted]
    rfl

/-- The port after the gap check of R26. -/
def gapPort (expected start : Nat) (port : Port) : Port :=
  { port with
    gaps := if start = expected then port.gaps else inc32 port.gaps
    gapReported := port.gapReported || decide (start ≠ expected) }

/-- The gap check (R26): the event for the first gap of a revolution, and the port's record. -/
theorem sliceGap_eq {p : HeadId} {s : State} {expected current revolution start count : Nat}
    (expects : (s.ports.get p).expected = some expected) (turns : (s.ports.get p).revolution = some current) :
    sliceGap p ⟨revolution, start, count⟩ s
      = (if start = expected ∨ (s.ports.get p).gapReported = true then s
          else raiseSoft (.port p) (.gap expected start current) s).withPort p (gapPort expected start (s.ports.get p)) := by
  have held : (s.ports.get p).expected.getD 0 = expected := by rw [expects]; rfl
  have turned : (s.ports.get p).revolution.getD 0 = current := by rw [turns]; rfl
  unfold sliceGap
  dsimp only
  by_cases due : start = expected
  · have same : gapPort expected start (s.ports.get p) = s.ports.get p := by simp [gapPort, due]
    rw [if_pos (due ▸ expects), if_pos (.inl due), same, State.withPort_get]
  · have late : ¬(s.ports.get p).expected = some start := fun e => due (Option.some.inj (e.symm.trans expects))
    have gapped : gapPort expected start (s.ports.get p)
        = { s.ports.get p with gaps := inc32 (s.ports.get p).gaps, gapReported := true } := by
      simp [gapPort, due]
    rw [if_neg late, held, turned, gapped]
    by_cases reported : (s.ports.get p).gapReported = true
    · rw [if_pos reported, if_pos (.inr reported)]
    · have first : ¬(start = expected ∨ (s.ports.get p).gapReported = true) := not_or.mpr ⟨due, reported⟩
      rw [if_neg reported, if_neg first, raiseSoft_withPort]

/-- A slice accepted in STREAMING (R26) in the words of `streamedPort`. -/
theorem sequenceSlice_eq {p : HeadId} {s : State} {expected current revolution start count : Nat}
    (expects : (s.ports.get p).expected = some expected) (turns : (s.ports.get p).revolution = some current) :
    sequenceSlice p ⟨revolution, start, count⟩ s
      = (if start = expected ∨ (s.ports.get p).gapReported = true then s
          else raiseSoft (.port p) (.gap expected start current) s).withPort p
          (streamedPort (s.ports.get p) expected current revolution start count) := by
  have stepped : sliceExpect ⟨revolution, start, count⟩
      (sliceRevolution ⟨revolution, start, count⟩ (gapPort expected start (s.ports.get p)))
        = streamedPort (s.ports.get p) expected current revolution start count := by
    by_cases front : start = 0 <;>
      simp [sliceExpect, sliceRevolution, gapPort, streamedPort, front, expectedAfter, startMs, turns]
  unfold sequenceSlice
  dsimp only
  rw [sliceGap_eq expects turns, State.withPort_ports, PerHead.get_set, stepped, State.withPort_withPort]

/-- Settles O9. -/
theorem sliceSequenced : Obligations.SliceSequenced := by
  intro p s expected current revolution start samples good streams expects turns told sequenced
  have taken : takeSlice p ⟨revolution, start, samples.length⟩ (slicePayload revolution start samples) s
      = passOn p ⟨revolution, start, samples.length⟩ (slicePayload revolution start samples) (told.withPort p sequenced) := by
    unfold takeSlice
    rw [streams]
    dsimp only
    rw [sequenceSlice_eq expects turns]
  have examines : examinesFrames (s.ports.get p).state = true := by
    rw [streams]
    rfl
  have same : told.run.runState = s.run.runState ∧ told.run.timebase = s.run.timebase ∧ told.odo.c = s.odo.c
      ∧ told.ports = s.ports := by
    unfold told
    split_ifs <;> simp
  obtain ⟨runState, timebase, chainage, ports⟩ := same
  have placed (port : Port) : told.withPort p port = { told with ports := s.ports.set p port } := by
    rw [State.withPort, ports]
    rfl
  refine ⟨fun idle => ?_, fun running => ?_⟩
  · have stays : ¬(told.withPort p sequenced).run.runState = .running := by
      rw [State.withPort_run, runState]
      exact idle
    rw [exec_slice_good examines good, taken, passOn, if_neg stays, placed]
  · have runs : (told.withPort p sequenced).run.runState = .running := runState.trans running
    have turned : (told.withPort p sequenced).ports.get p = sequenced := PerHead.get_set _ _ _
    rw [exec_slice_good examines good, taken, passOn_of_running runs turned, sliceSamples_slicePayload good,
      State.withPort_withPort, State.withPort_run, State.withPort_odo, timebase, chainage, placed]
    rfl

end Sys2Proof.Machine

/-! The queue's two ends: soft faults at its entrance (R157, R185, R186), the record in transmission at its exit (R150, R151), and
the frames of the inbound side (R165, R166). -/

namespace Sys2Proof.Machine

/-! ### Soft faults -/

/-- Settles O27. -/
theorem softFaultRaised : Obligations.SoftFaultRaised := by
  intro source detail s e r fits slot
  have room : fitsControl s.queue (recordSize (.event e)) = true ↔ fits := fitsControl_iff s.queue 32
  have raised : raiseSoft source detail s = (offerEvent e s).withFaults (captureSoft e (offerEvent e s).faults) := rfl
  constructor
  · intro h
    rw [raised, offerEvent, if_pos (room.mpr h)]
    rfl
  · intro h
    rw [raised, offerEvent, if_neg fun f => h (room.mp f)]
    rfl

/-! ### The record in transmission -/

section
variable {s : State} {r : Record} {rest : List Record}

theorem recordLeft_control (sending : s.queue.sending = some .control) (control : s.queue.control = r :: rest)
    (k : QueueCounters) :
    sendingRecord s.queue = some r
      ∧ recordLeft k s = s.withQueue { s.queue with control := rest, sending := none, counters := k } := by
  constructor
  · simp [sendingRecord, sending, control]
  · simp [recordLeft, dropSent, sending, control]

theorem recordLeft_data (sending : s.queue.sending = some .data) (data : s.queue.data = r :: rest) (k : QueueCounters) :
    sendingRecord s.queue = some r
      ∧ recordLeft k s = s.withQueue { s.queue with data := rest, sending := none, counters := k } := by
  constructor
  · simp [sendingRecord, sending, data]
  · simp [recordLeft, dropSent, sending, data]

theorem dropSent_of_idle {q : Outbound} (h : q.sending = none) : dropSent q = q := by
  unfold dropSent
  rw [h]

/-- A record that is not the RUN_END that ends the run ends nothing (R13). -/
theorem completeRunEnd_of_not (h : ¬∃ e, r = .runEnd e ∧ s.run.runState = .draining ∧ e.runNumber = s.run.runNumber
    ∧ e.reason = .stopped) (q : Outbound) : completeRunEnd r (s.withQueue q) = s.withQueue q := by
  cases r with
  | runEnd e => exact if_neg fun ends => h ⟨e, rfl, ends⟩
  | _ => rfl

/-- A record that is not the current run's RUN_END in DRAINING is not offered again (R13). -/
theorem reofferRunEnd_of_not (h : ¬∃ e, r = .runEnd e ∧ s.run.runState = .draining ∧ e.runNumber = s.run.runNumber)
    (q : Outbound) : reofferRunEnd (some r) (s.withQueue q) = s.withQueue q := by
  cases r with
  | runEnd e => exact if_neg fun ends => h ⟨e, rfl, ends⟩
  | _ => rfl

theorem transmissionComplete_of_left {k : QueueCounters} {q : Outbound} (sent : sendingRecord s.queue = some r)
    (counted : k = { s.queue.counters with transmitted := inc32 s.queue.counters.transmitted })
    (left : recordLeft k s = s.withQueue q) :
    exec .transmissionComplete s
      = .next (endEvent ((completeRunEnd r (s.withQueue q)).withQueue (serveHolder (completeRunEnd r (s.withQueue q)).queue))) := by
  show Host.Outcome.next (endEvent (completeTransmission s)) = _
  rw [completeTransmission_of_sending sent, ← counted, left]

end

/-- Settles O31. -/
theorem transmissionCompletes : Obligations.TransmissionCompletes := by
  intro s counted ends
  refine ⟨fun idle => ?_, fun r rest sending data stays => ?_, fun r rest sending control stays => ?_,
    fun r rest sending control done => ?_⟩
  · have nothing : sendingRecord s.queue = none := by simp [sendingRecord, idle]
    show Host.Outcome.next (endEvent (completeTransmission s)) = _
    rw [completeTransmission_of_idle nothing]
  · obtain ⟨sent, left⟩ := recordLeft_data sending data counted
    rw [transmissionComplete_of_left sent rfl left, completeRunEnd_of_not stays _]
    rfl
  · obtain ⟨sent, left⟩ := recordLeft_control sending control counted
    rw [transmissionComplete_of_left sent rfl left, completeRunEnd_of_not stays _]
    rfl
  · obtain ⟨sent, left⟩ := recordLeft_control sending control counted
    obtain ⟨e, rfl, last⟩ := done
    have ended (q : Outbound) : completeRunEnd (.runEnd e) (s.withQueue q)
        = (((s.withQueue q).withRun { s.run with runState := .ended }).withOdo (handOver s.odo)).withFaults
            { s.faults with linkLoss := none } := if_pos last
    rw [transmissionComplete_of_left sent rfl left, ended]
    rfl

/-! ### The carrier of the trunk link -/

/-- With the link DOWN the arbiter chooses nothing. -/
theorem endEvent_of_down {s : State} (h : s.queue.linkUp = false) : endEvent s = s := by
  unfold endEvent arbitrate
  rw [h, Bool.and_false, if_neg (by decide)]
  rfl

/-- The link-loss timer after the carrier is lost (R189). -/
theorem startLinkLoss_eq (s : State) :
    startLinkLoss s
      = s.withFaults
          { s.faults with
            linkLoss :=
              if (s.run.runState = .running ∨ s.run.runState = .draining) ∧ s.faults.linkLoss = none then
                some (1000 * s.run.params.linkLossLimit)
              else s.faults.linkLoss } := by
  have starts : (inSurvey s.run.runState && s.faults.linkLoss.isNone) = true
      ↔ (s.run.runState = .running ∨ s.run.runState = .draining) ∧ s.faults.linkLoss = none := by
    rw [Bool.and_eq_true, Option.isNone_iff_eq_none]
    exact and_congr_left' (by cases s.run.runState <;> decide)
  unfold startLinkLoss
  by_cases h : (inSurvey s.run.runState && s.faults.linkLoss.isNone) = true
  · rw [if_pos h, if_pos (starts.mp h)]
    rfl
  · rw [if_neg h, if_neg fun e => h (starts.mpr e)]
    rfl

/-- The carrier lost, in terms of what becomes of the record in transmission. -/
theorem trunkLinkDown_of_abandon {s : State} {q : Outbound} (down : q.linkUp = false)
    (lost : abandon (s.withQueue { s.queue with linkUp := false }) = s.withQueue q) :
    exec .trunkLinkDown s = .next (startLinkLoss (s.withQueue q)) := by
  have still : (startLinkLoss (s.withQueue q)).queue.linkUp = false := by
    rw [startLinkLoss_eq]
    exact down
  show Host.Outcome.next (endEvent (linkDown s)) = _
  rw [linkDown, lost, endEvent_of_down still]

/-- Settles O32. -/
theorem trunkLinkCarrier : Obligations.TrunkLinkCarrier := by
  intro s timed counted again
  have timedOut (q : Outbound) : startLinkLoss (s.withQueue q) = { s with queue := q, faults := timed } :=
    startLinkLoss_eq (s.withQueue q)
  have abandoned {r : Record} {q : Outbound} (sent : sendingRecord s.queue = some r)
      (left : recordLeft counted (s.withQueue { s.queue with linkUp := false }) = s.withQueue q) :
      abandon (s.withQueue { s.queue with linkUp := false })
        = (reofferRunEnd (some r) (s.withQueue q)).withQueue (serveHolder (reofferRunEnd (some r) (s.withQueue q)).queue) := by
    have sent' : sendingRecord (s.withQueue { s.queue with linkUp := false }).queue = some r := sent
    rw [abandon_of_sending sent']
    exact congrArg (fun v : State => (reofferRunEnd (some r) v).withQueue (serveHolder (reofferRunEnd (some r) v).queue)) left
  refine ⟨fun idle => ?_, fun r rest sending data stays => ?_, fun r rest sending control stays => ?_,
    fun r rest sending control due empty room => ?_, ?_⟩
  · have nothing : sendingRecord (s.withQueue { s.queue with linkUp := false }).queue = none := by simp [sendingRecord, idle]
    have lost := abandon_of_idle nothing
    rw [dropSent_of_idle (q := (s.withQueue { s.queue with linkUp := false }).queue) idle] at lost
    rw [trunkLinkDown_of_abandon rfl lost, timedOut]
    rfl
  · obtain ⟨sent, left⟩ := recordLeft_data (s := s.withQueue { s.queue with linkUp := false }) sending data counted
    have lost := abandoned sent left
    rw [reofferRunEnd_of_not stays _] at lost
    rw [trunkLinkDown_of_abandon (by simp) lost, timedOut]
    rfl
  · obtain ⟨sent, left⟩ := recordLeft_control (s := s.withQueue { s.queue with linkUp := false }) sending control counted
    have lost := abandoned sent left
    rw [reofferRunEnd_of_not stays _] at lost
    rw [trunkLinkDown_of_abandon (by simp) lost, timedOut]
    rfl
  · obtain ⟨sent, left⟩ := recordLeft_control (s := s.withQueue { s.queue with linkUp := false }) sending control counted
    obtain ⟨e, rfl, current⟩ := due
    have lost := abandoned (q := { s.queue with linkUp := false, control := rest, sending := none, counters := counted }) sent left
    have free : s.queue.holder = [] := empty
    have again : fitsControl { s.queue with linkUp := false, control := rest, sending := none, counters := counted }
        (recordSize (.runEnd e)) = true := by
      rw [occupancy, control, totalSize_cons] at room
      simp only [fitsControl_iff, occupancy, holderClaim, free, totalSize_nil]
      omega
    have offered : reofferRunEnd (some (.runEnd e))
        (s.withQueue { s.queue with linkUp := false, control := rest, sending := none, counters := counted })
          = s.withQueue { s.queue with
              linkUp := false, control := rest ++ [.runEnd e], sending := none, counters := counted } := by
      refine (if_pos current).trans ((offerRunEnd_of_fits ?_ again).trans ?_)
      · exact free
      · rfl
    have served : serveHolder { s.queue with
        linkUp := false, control := rest ++ [.runEnd e], sending := none, counters := counted }
          = { s.queue with linkUp := false, control := rest ++ [.runEnd e], sending := none, counters := counted } := by
      unfold serveHolder
      rw [show ({ s.queue with linkUp := false, control := rest ++ [.runEnd e], sending := none, counters := counted }
        : Outbound).holder = [] from free, serveRecords, ← free]
    rw [offered] at lost
    rw [trunkLinkDown_of_abandon rfl (lost.trans (congrArg s.withQueue served)), timedOut]
  · rfl

/-! ### Inbound frames -/

/-- Settles O34. -/
theorem inboundFrames : Obligations.InboundFrames := by
  refine ⟨fun s c down frame => ?_, fun s up => ⟨?_, fun kind payload crc short bad => ?_, fun kind payload short bad => ?_,
    fun tag kind payload short => ?_⟩⟩
  · have ignored (f : Management → Management) : endEvent (receiveInbound f s) = s := by
      rw [receiveInbound, if_neg (by simp [down]), endEvent_of_down down]
    rcases frame with rfl | ⟨kind, payload, crc, rfl⟩ | ⟨tag, kind, payload, rfl⟩
    · exact congrArg Host.Outcome.next (ignored _)
    · exact congrArg Host.Outcome.next (ignored _)
    · exact congrArg Host.Outcome.next (ignored _)
  · show Host.Outcome.next (endEvent (receiveInbound countBadFrame s)) = _
    rw [receiveInbound, if_pos up]
    rfl
  · have within : ¬requestPayloadLimit + 2 < payload.length := Nat.not_lt.mpr short
    show Host.Outcome.next (endEvent (receiveInbound (trunkFrameDiscarded kind payload crc) s)) = _
    rw [receiveInbound, if_pos up, trunkFrameDiscarded, if_neg within, if_pos bad]
    rfl
  · have within : ¬requestPayloadLimit + 2 < payload.length := Nat.not_lt.mpr short
    have counted : trunkFrameDiscarded kind payload (trunkCrc kind payload) s.mgmt = countBadFrame (countFrame s.mgmt) := by
      rw [trunkFrameDiscarded, if_neg within, if_neg fun h => h rfl]
      by_cases other : kind ≠ 32#8
      · rw [if_pos other]
      · rw [if_neg other, if_pos (bad.resolve_left other)]
    show Host.Outcome.next (endEvent (receiveInbound (trunkFrameDiscarded kind payload (trunkCrc kind payload)) s)) = _
    rw [receiveInbound, if_pos up, counted]
    rfl
  · have within : ¬requestPayloadLimit < payload.length := Nat.not_lt.mpr short
    show Host.Outcome.next (endEvent (receiveInbound (requestArrives tag kind payload) s)) = _
    rw [receiveInbound, if_pos up, requestArrives, if_neg within]
    rfl

end Sys2Proof.Machine

/-! What closures do (R114 to R123, R139, R191, R192): one closure record by record, several one after another in their counts,
and the halt behind them. -/

namespace Sys2Proof.Machine

/-! ### The count of INTRUSION records lost -/

/-- No INTRUSION record is lost from `s` to `t`: the counts of lost ones and the hard slot are as they were. -/
structure NoneLost (s t : State) : Prop where
  hard : t.faults.hard = s.faults.hard
  hardReported : t.faults.hardReported = s.faults.hardReported
  intrusionLost : t.queue.counters.intrusionLost = s.queue.counters.intrusionLost
  intrusionsDropped : t.run.counters.intrusionsDropped = s.run.counters.intrusionsDropped

section
variable {s t : State}

theorem NoneLost.refl (s : State) : NoneLost s s := ⟨rfl, rfl, rfl, rfl⟩

theorem NoneLost.trans {u : State} (m : NoneLost s t) (h : NoneLost t u) : NoneLost s u :=
  ⟨h.hard.trans m.hard, h.hardReported.trans m.hardReported, h.intrusionLost.trans m.intrusionLost,
    h.intrusionsDropped.trans m.intrusionsDropped⟩

theorem offerEvent_noneLost (e : EventRecord) (s : State) : NoneLost s (offerEvent e s) := by
  unfold offerEvent
  split <;> exact ⟨rfl, rfl, rfl, rfl⟩

theorem raiseSoft_noneLost (source : Source) (detail : EventDetail) (s : State) : NoneLost s (raiseSoft source detail s) := by
  obtain ⟨hard, hardReported, intrusionLost, intrusionsDropped⟩ := offerEvent_noneLost (makeEvent s source detail) s
  exact ⟨hard, hardReported, intrusionLost, intrusionsDropped⟩

theorem tryForms_noneLost (c : ProfileContent) (fs : List ProfileForm) (s : State) : NoneLost s (tryForms c fs s) := by
  induction fs with
  | nil =>
    obtain ⟨hard, hardReported, intrusionLost, intrusionsDropped⟩ := raiseSoft_noneLost .outboundQueue
      (.profileDropped c.header.sequence c.header.station s.queue.level (dataOccupancy s.queue))
      ((s.withQueue { s.queue with counters := { s.queue.counters with profileDropped := inc32 s.queue.counters.profileDropped } }
        ).withCounters { s.run.counters with profilesDropped := inc32 s.run.counters.profilesDropped })
    exact ⟨hard, hardReported, intrusionLost, intrusionsDropped⟩
  | cons f rest ih =>
    unfold tryForms
    split
    · cases f <;> exact ⟨rfl, rfl, rfl, rfl⟩
    · exact ih

theorem offerProfile_noneLost (c : ProfileContent) (s : State) : NoneLost s (offerProfile c s) := by
  obtain ⟨hard, hardReported, intrusionLost, intrusionsDropped⟩ :=
    tryForms_noneLost c (formsAt (nextLevel s.run.params s.queue))
      (s.withQueue { s.queue with level := nextLevel s.run.params s.queue })
  exact ⟨hard, hardReported, intrusionLost, intrusionsDropped⟩

/-- Of the offers of a closure only the INTRUSION record's can lose one, and then it is counted (R159). -/
theorem closeContext_noneLost {reason : Option CloseReason} {c : Context} (h : (closeContext reason c s).2 = false) :
    NoneLost s (closeContext reason c s).1 := by
  have offered (cp : ClosedProfile) (a : Assessment) (v : State) (stays : (offerRuns cp a v).2 = false) :
      NoneLost v (offerRuns cp a v).1 := by
    unfold offerRuns at *
    split at stays
    · rw [if_pos ‹_›]
      exact .refl v
    · rw [if_neg ‹_›]
      unfold offerIntrusion at *
      split_ifs at * <;> exact ⟨rfl, rfl, rfl, rfl⟩
  have taken (cp : ClosedProfile) (v : State) (stays : (assess cp v).2 = false) : NoneLost v (assess cp v).1 := by
    have runs := offered cp (assessment v.run.params v.route cp) (v.withComparator (comparatorAfter v.run.params cp
      (assessment v.run.params v.route cp) v.comparator)) stays
    have told : NoneLost v (offerRuns cp (assessment v.run.params v.route cp) (v.withComparator (comparatorAfter v.run.params cp
      (assessment v.run.params v.route cp) v.comparator))).1 :=
        ⟨runs.hard, runs.hardReported, runs.intrusionLost, runs.intrusionsDropped⟩
    simp only [assess]
    split
    · exact (told.trans (offerEvent_noneLost _ _)).trans (offerProfile_noneLost _ _)
    · exact told.trans (offerProfile_noneLost _ _)
  obtain ⟨hard, hardReported, intrusionLost, intrusionsDropped⟩ := taken _ _ h
  exact ⟨hard, hardReported, intrusionLost, intrusionsDropped⟩

/-- A lost INTRUSION record is counted and held in the hard slot (R159, R183). -/
def CountedLost (s t : State) : Prop :=
  t.run.counters.intrusionsDropped = inc32 s.run.counters.intrusionsDropped ∧ t.faults.hard.lock = true

theorem CountedLost.then_none {u : State} (m : CountedLost s t) (h : NoneLost t u) : CountedLost s u :=
  ⟨h.intrusionsDropped.trans m.1, by rw [h.hard]; exact m.2⟩

theorem captureIn_lock (r : FaultRecord) (x : Slot) : (captureIn r x).lock = true := by
  unfold captureIn
  split
  exacts [‹_›, rfl]

theorem loseIntrusion_counted (r : IntrusionRecord) (s : State) : CountedLost s (loseIntrusion r s) := by
  refine ⟨loseIntrusion_run_intrusionsDropped r s, ?_⟩
  unfold loseIntrusion raiseHard
  dsimp only
  rw [(offerEvent_noneLost _ _).hard]
  exact captureIn_lock _ _

theorem closeContext_lost {reason : Option CloseReason} {c : Context} (h : (closeContext reason c s).2 = true) :
    CountedLost s (closeContext reason c s).1 := by
  have offered (cp : ClosedProfile) (a : Assessment) (v : State) (lost : (offerRuns cp a v).2 = true) :
      CountedLost v (offerRuns cp a v).1 := by
    unfold offerRuns at *
    split at lost
    · cases lost
    · rw [if_neg ‹_›]
      unfold offerIntrusion at *
      split_ifs at *
      exact loseIntrusion_counted _ _
  have taken (cp : ClosedProfile) (v : State) (lost : (assess cp v).2 = true) : CountedLost v (assess cp v).1 := by
    obtain ⟨dropped, locked⟩ := offered cp (assessment v.run.params v.route cp) (v.withComparator
      (comparatorAfter v.run.params cp (assessment v.run.params v.route cp) v.comparator)) lost
    have told : CountedLost v (offerRuns cp (assessment v.run.params v.route cp) (v.withComparator
      (comparatorAfter v.run.params cp (assessment v.run.params v.route cp) v.comparator))).1 := ⟨dropped, locked⟩
    simp only [assess]
    split
    · exact (told.then_none (offerEvent_noneLost _ _)).then_none (offerProfile_noneLost _ _)
    · exact told.then_none (offerProfile_noneLost _ _)
  obtain ⟨dropped, locked⟩ := taken _ _ h
  exact ⟨dropped, locked⟩

/-! ### The counts of closures -/

/-- The sequence counter after one closure (R115). -/
def nextSequence (n : Nat) : Nat := wrap32 (n + 1)

theorem iterate_nextSequence {k : Nat} (h : 0 < k) (n : Nat) : nextSequence^[k] n = (n + k) % 4294967296 := by
  induction k with
  | zero => exact absurd h (Nat.lt_irrefl 0)
  | succ k ih =>
    rw [Function.iterate_succ_apply']
    cases k with
    | zero => rfl
    | succ k =>
      rw [ih (Nat.zero_lt_succ k)]
      simp only [nextSequence, wrap32]
      omega

theorem iterate_inc32 {k : Nat} (h : 0 < k) (n : Nat) : inc32^[k] n = min 4294967295 (n + k) := by
  induction k with
  | zero => exact absurd h (Nat.lt_irrefl 0)
  | succ k ih =>
    rw [Function.iterate_succ_apply']
    cases k with
    | zero => rfl
    | succ k =>
      rw [ih (Nat.zero_lt_succ k)]
      simp only [inc32, satAdd, count32]
      omega

@[simp] theorem closeContext_assessed (reason : Option CloseReason) (c : Context) (s : State) :
    (closeContext reason c s).1.comparator.assessed = inc32 s.comparator.assessed := by
  have taken (cp : ClosedProfile) (a : Assessment) (p : RunParams) (x : Comparator) :
      (comparatorAfter p cp a x).assessed = inc32 x.assessed := by
    unfold comparatorAfter
    dsimp only
    split <;> rfl
  simp only [closeContext, assess, offerRuns]
  split_ifs <;> simp [taken]

/-! ### Blocks left unchanged -/

theorem Frame.refl (l : List Block) (s : State) : Frame l s s := ⟨rfl, fun b _ => by cases b <;> rfl⟩

theorem Frame.trans {l : List Block} {s t u : State} (m : Frame l s t) (h : Frame l t u) : Frame l s u := by
  obtain ⟨pending, same⟩ := m
  obtain ⟨pending', same'⟩ := h
  refine ⟨pending'.trans pending, fun b outside => ?_⟩
  have first := same b outside
  have second := same' b outside
  cases b <;> exact second.trans first

theorem Frame.mono {l l' : List Block} {s t : State} (m : Frame l s t) (h : ∀ b ∈ l, b ∈ l') : Frame l' s t :=
  ⟨m.1, fun b outside => m.2 b fun inside => outside (h b inside)⟩

/-! ### Several closures -/

/-- What closures of `cs`, one after another, make of a state: the set without their stations, the closed line behind the last, one
step of each counter for each of them, and the count of lost INTRUSION records in the one case that calls for a halt. -/
structure ClosedOut (cs : List Context) (s : State) (r : State × Bool) : Prop where
  frame : Frame [.run, .assembler, .comparator, .queue, .faults] s r.1
  contexts : r.1.assembler.contexts = s.assembler.contexts.filter fun x => decide (∀ c ∈ cs, x.station ≠ c.station)
  closedLine : r.1.assembler.closedLine = (cs.getLast?.map fun c => c.station + 1).getD s.assembler.closedLine
  sequence : r.1.assembler.sequence = nextSequence^[cs.length] s.assembler.sequence
  profilesClosed : r.1.run.counters.profilesClosed = inc32^[cs.length] s.run.counters.profilesClosed
  assessed : r.1.comparator.assessed = inc32^[cs.length] s.comparator.assessed
  run : r.1.run = { s.run with counters := r.1.run.counters }
  headLoss : r.1.faults.headLoss = s.faults.headLoss
  linkLoss : r.1.faults.linkLoss = s.faults.linkLoss
  slot : slotKept s.faults.hard r.1.faults.hard
  noneLost : r.2 = false → NoneLost s r.1
  locked : r.2 = true → r.1.faults.hard.lock = true
  lost : r.2 = true → s.run.counters.intrusionsDropped < 4294967295 →
    s.run.counters.intrusionsDropped < r.1.run.counters.intrusionsDropped
  rising : s.run.counters.intrusionsDropped ≤ 4294967295 →
    s.run.counters.intrusionsDropped ≤ r.1.run.counters.intrusionsDropped ∧ r.1.run.counters.intrusionsDropped ≤ 4294967295

theorem closeContext_run (reason : Option CloseReason) (c : Context) (s : State) :
    (closeContext reason c s).1.run = { s.run with counters := (closeContext reason c s).1.run.counters } := by
  have same : ∀ x y : RunControl, x.runState = y.runState → x.runNumber = y.runNumber → x.startTime = y.startTime →
      x.params = y.params → x.paramsSet = y.paramsSet → x.timebase = y.timebase → x = { y with counters := x.counters } := by
    rintro ⟨⟩ ⟨⟩ rfl rfl rfl rfl rfl rfl
    rfl
  exact same _ _ (by simp) (by simp) (by simp) (by simp) (by simp) (by simp)

theorem closeContext_closedOut (reason : Option CloseReason) (c : Context) (s : State) :
    ClosedOut [c] s (closeContext reason c s) where
  frame := by
    refine ⟨by simp, fun b outside => ?_⟩
    cases b with
    | run | assembler | comparator | queue | faults => simp at outside
    | ports | correctors | odo | route | mgmt | choices => simp [sameBlock]
  contexts := by simp [← beq_eq_decide, bne]
  closedLine := by simp
  sequence := by simp [nextSequence]
  profilesClosed := by simp
  assessed := by simp
  run := closeContext_run reason c s
  headLoss := by simp
  linkLoss := by simp
  slot := (closeContext_moves .refl).slots_kept.1
  noneLost := closeContext_noneLost
  locked := fun h => (closeContext_lost h).2
  lost := fun h low => by
    rw [(closeContext_lost h).1]
    simp only [inc32, satAdd, count32]
    omega
  rising := fun low => by
    cases h : (closeContext reason c s).2 with
    | false =>
      rw [(closeContext_noneLost h).intrusionsDropped]
      exact ⟨Nat.le_refl _, low⟩
    | true =>
      rw [(closeContext_lost h).1]
      simp only [inc32, satAdd, count32]
      omega

theorem ClosedOut.trans {cs ds : List Context} {s t : State} {b : Bool} {r : State × Bool} (m : ClosedOut cs s (t, b))
    (h : ClosedOut ds t r) : ClosedOut (cs ++ ds) s (r.1, b || r.2) where
  frame := m.frame.trans h.frame
  contexts := by
    rw [h.contexts, m.contexts, List.filter_filter]
    refine List.filter_congr fun x _ => ?_
    simp only [List.mem_append, ← Bool.decide_and, decide_eq_decide]
    exact ⟨fun ⟨second, first⟩ c hc => hc.elim (first c) (second c), fun all => ⟨fun c hc => all c (.inr hc), fun c hc => all c (.inl hc)⟩⟩
  closedLine := by
    rw [h.closedLine, m.closedLine, List.getLast?_append]
    cases ds.getLast? <;> rfl
  sequence := by rw [h.sequence, m.sequence, List.length_append, Nat.add_comm, Function.iterate_add_apply]
  profilesClosed := by rw [h.profilesClosed, m.profilesClosed, List.length_append, Nat.add_comm, Function.iterate_add_apply]
  assessed := by rw [h.assessed, m.assessed, List.length_append, Nat.add_comm, Function.iterate_add_apply]
  run := h.run.trans (by rw [m.run])
  headLoss := h.headLoss.trans m.headLoss
  linkLoss := h.linkLoss.trans m.linkLoss
  slot := slotKept_trans m.slot h.slot
  locked := fun some => (Bool.or_eq_true_iff.mp some).elim (fun first => h.slot.2 (m.locked first)) h.locked
  noneLost := fun none => by
    obtain ⟨first, second⟩ := Bool.or_eq_false_iff.mp none
    exact (m.noneLost first).trans (h.noneLost second)
  lost := fun some low => by
    obtain ⟨le, bound⟩ := m.rising low.le
    obtain ⟨le', -⟩ := h.rising bound
    rcases Bool.or_eq_true_iff.mp some with first | second
    · exact (m.lost first low).trans_le le'
    · by_cases full : t.run.counters.intrusionsDropped < 4294967295
      · exact le.trans_lt (h.lost second full)
      · exact low.trans_le ((Nat.not_lt.mp full).trans le')
  rising := fun low => by
    obtain ⟨le, bound⟩ := m.rising low
    obtain ⟨le', bound'⟩ := h.rising bound
    exact ⟨le.trans le', bound'⟩

theorem closures_closedOut (reason : Context → Option CloseReason) (cs : List Context) (s : State) :
    ClosedOut cs s (closures reason cs s) := by
  induction cs generalizing s with
  | nil =>
    exact ⟨.refl _ s, by simp, rfl, rfl, rfl, rfl, rfl, rfl, rfl, slotKept_refl _,
      fun _ => .refl s, nofun, nofun, fun low => ⟨Nat.le_refl _, low⟩⟩
  | cons c cs ih =>
    rw [closures_cons]
    exact (closeContext_closedOut (reason c) c s).trans (ih _)

/-! ### Records that stay -/

/-- A record is in the control list or waits in the holder. -/
def recorded (r : Record) (q : Outbound) : Prop := r ∈ q.control ∨ r ∈ q.holder

theorem Move.keeps_recorded {r : Record} (m : Move s t) (h : recorded r s.queue) : recorded r t.queue := by
  cases m with
  | quiet same _ _ => exact same ▸ h
  | joinsControl _ _ => exact h.imp_left (List.mem_append_left _)
  | waits _ _ => exact h.imp_right (List.mem_append_left _)
  | _ => exact h

theorem Moves.keeps_recorded {r : Record} (m : Moves s t) (h : recorded r s.queue) : recorded r t.queue :=
  m.keeps (P := fun v => recorded r v.queue) (fun _ _ hv last => last.keeps_recorded hv) h

theorem offerRunEnd_recorded (e : RunEndRecord) (s : State) : recorded (.runEnd e) (offerRunEnd e s).queue := by
  unfold offerRunEnd
  split
  · exact .inl (List.mem_append_right _ (List.mem_singleton_self _))
  · exact .inr (List.mem_append_right _ (List.mem_singleton_self _))

theorem endEvent_recorded {r : Record} (h : recorded r s.queue) : recorded r (endEvent s).queue := by
  unfold recorded endEvent at *
  simpa using h

theorem endEvent_frame {l : List Block} (h : Frame l s t) (queue : Block.queue ∈ l) : Frame l s (endEvent t) :=
  h.trans ⟨rfl, fun b outside => by
    cases b with
    | queue => exact absurd queue outside
    | _ => rfl⟩

theorem offerEvent_frame (e : EventRecord) (s : State) : Frame [.run, .queue, .faults] s (offerEvent e s) := by
  have kept (x : RunControl) (q : Outbound) (f : FaultCapture) :
      Frame [.run, .queue, .faults] s { s with run := x, queue := q, faults := f } :=
    ⟨rfl, fun b outside => by
      cases b with
      | run | queue | faults => simp at outside
      | _ => rfl⟩
  unfold offerEvent
  split
  exacts [kept _ _ _, kept _ _ _]

theorem offerRunEnd_frame (e : RunEndRecord) (s : State) : Frame [.queue] s (offerRunEnd e s) := by
  have kept (q : Outbound) : Frame [.queue] s { s with queue := q } :=
    ⟨rfl, fun b outside => by
      cases b with
      | queue => simp at outside
      | _ => rfl⟩
  unfold offerRunEnd
  split
  exacts [kept _, kept _]

/-! ### The halt -/

/-- What the halt makes of a state (R191): every context closed, its run end handed over, both loss timers stopped, and a RUN_END
record that reports the closures. -/
structure HaltedOut (fault : EventKind) (s t : State) : Prop where
  frame : Frame [.run, .odo, .assembler, .comparator, .queue, .faults] s t
  contexts : t.assembler.contexts = []
  closedLine : s.assembler.contexts = [] → t.assembler.closedLine = s.assembler.closedLine
  sequence : t.assembler.sequence = nextSequence^[s.assembler.contexts.length] s.assembler.sequence
  profilesClosed : t.run.counters.profilesClosed = inc32^[s.assembler.contexts.length] s.run.counters.profilesClosed
  assessed : t.comparator.assessed = inc32^[s.assembler.contexts.length] s.comparator.assessed
  run : t.run = { s.run with runState := .halted, counters := t.run.counters }
  odo : t.odo = handOver s.odo
  headLoss : t.faults.headLoss = none
  linkLoss : t.faults.linkLoss = none
  slot : slotKept s.faults.hard t.faults.hard
  rising : s.run.counters.intrusionsDropped ≤ 4294967295 →
    s.run.counters.intrusionsDropped ≤ t.run.counters.intrusionsDropped
  records : ∀ r, recorded r s.queue → recorded r t.queue
  runEnd : recorded (.runEnd (runEndNow .halted (some fault)
    (closures (fun _ => some .aborted) s.assembler.contexts s).1)) t.queue

theorem haltedBy_haltedOut (fault : EventKind) (s : State) : HaltedOut fault s (haltedBy fault s) := by
  have closed := closures_closedOut (fun _ => some .aborted) s.assembler.contexts s
  have noneLeft : (closures (fun _ => some .aborted) s.assembler.contexts s).1.assembler.contexts = [] := by
    rw [closed.contexts, List.filter_eq_nil_iff]
    intro d hd
    simp only [decide_eq_true_eq, not_forall]
    exact ⟨d, hd, by simp⟩
  have moves : Moves s (haltedBy fault s) := haltRun_eq_haltedBy fault s ▸ haltRun_moves .refl
  have counters : (haltedBy fault s).run.counters
      = (closures (fun _ => some .aborted) s.assembler.contexts s).1.run.counters := by
    show (offerRunEnd _ _).run.counters = _
    unfold offerRunEnd
    split <;> rfl
  refine
    { frame := ?frame
      contexts := ?contexts
      closedLine := fun empty => ?closedLine
      sequence := ?sequence
      profilesClosed := counters ▸ closed.profilesClosed
      assessed := ?assessed
      run := ?run
      odo := ?odo
      headLoss := rfl
      linkLoss := rfl
      slot := moves.slots_kept.1
      rising := fun low => counters ▸ (closed.rising low).1
      records := fun r => moves.keeps_recorded
      runEnd := offerRunEnd_recorded _ _ }
  case frame =>
    have stopped (v : State) (x : RunControl) (o : Odometry) (f : FaultCapture) :
        Frame [.run, .odo, .assembler, .comparator, .queue, .faults] v { v with run := x, odo := o, faults := f } :=
      ⟨rfl, fun b outside => by
        cases b with
        | run | odo | assembler | comparator | queue | faults => simp at outside
        | _ => rfl⟩
    exact ((closed.frame.mono (by decide)).trans ((offerRunEnd_frame _ _).mono (by decide))).trans (stopped _ _ _ _)
  case contexts => rw [← haltRun_eq_haltedBy, haltRun_contexts]
  case closedLine =>
    rw [← haltRun_eq_haltedBy]
    simp [haltRun, closeEvery, empty, closeAll]
  case sequence =>
    show (offerRunEnd _ _).assembler.sequence = _
    rw [offerRunEnd_assembler, closed.sequence]
  case assessed =>
    show (offerRunEnd _ _).comparator.assessed = _
    rw [offerRunEnd_comparator, closed.assessed]
  case run =>
    have offered (e : RunEndRecord) (v : State) : (offerRunEnd e v).run = v.run := by
      unfold offerRunEnd
      split <;> rfl
    rw [counters]
    show ({ (offerRunEnd _ _).run with runState := .halted } : RunControl) = _
    rw [offered, closed.run]
  case odo => rw [← haltRun_eq_haltedBy, haltRun_odo]

end

end Sys2Proof.Machine

/-! Closures in the words of the claims: one closure written out (R115, R117, R127, R132, R136 to R140), and the expired close timer of
a context (R114, R121). -/

namespace Sys2Proof.Machine

/-! ### The copy of a context -/

/-- The entry that a copy holds, if any. -/
def entryOf : RouteCopy → Option EntryCopy
  | .entry e => some e
  | .outside => none
  | .unmappedCell _ => none

section
variable (copy : RouteCopy) (p : RunParams)

theorem copyEntry_eq : copyEntry copy = (entryOf copy).map EntryCopy.entry := by cases copy <;> rfl

theorem copyEnvelopeId_eq : copyEnvelopeId copy = (entryOf copy).map EntryCopy.envelope := by cases copy <;> rfl

theorem copyUnmapped_eq : copyUnmapped copy = (entryOf copy).isNone := by cases copy <;> rfl

theorem copyNoAssess_eq : copyNoAssess copy = decide ((entryOf copy).map EntryCopy.zone = some .noAssess) := by
  cases copy with
  | entry e => exact (beq_eq_decide ..).trans (by simp [entryOf])
  | _ => rfl

theorem meetsAlert_eq (depth : Option Nat) :
    meetsAlert p copy depth = match entryOf copy, depth with
      | some e, some d => e.alertEnable && decide (p.alertDepth ≤ d)
      | _, _ => false := by
  cases copy <;> cases depth <;> simp [meetsAlert, copyAlerts, entryOf]

theorem throwsOf_eq : throwsOf p copy
    = (((entryOf copy).map fun e => innerThrow e.radius p.bogieCentres).getD 0,
        ((entryOf copy).map fun e => outerThrow e.radius p.bogieCentres p.vehicleLength).getD 0) := by
  cases copy <;> rfl

end

/-! ### The counts of classes -/

theorem classCount_eq (x : SectorClass) (sectors : List AssessedSector) :
    classCount x sectors = (sectors.filter fun a => decide (a.cls = x)).length := by
  rw [classCount, List.countP_eq_length_filter]
  rfl

theorem any_class_eq (x : SectorClass) (sectors : List AssessedSector) :
    (sectors.any fun a => a.cls == x) = decide ((sectors.filter fun a => decide (a.cls = x)).length ≠ 0) := by
  rw [Bool.eq_iff_iff, List.any_eq_true, decide_eq_true_eq, Ne, List.length_eq_zero_iff, List.filter_eq_nil_iff]
  simp

/-- The ring is full exactly when all 128 sectors are INTRUSION (R133). -/
theorem searchStart_isNone_eq {sectors : List AssessedSector} (length : sectors.length = 128) :
    (searchStart sectors).isNone = decide ((sectors.filter fun a => decide (a.cls = .intrusion)).length = 128) := by
  rw [Bool.eq_iff_iff, decide_eq_true_eq, Option.isNone_iff_eq_none, searchStart, List.findIdx?_eq_none_iff, ← length,
    List.length_filter_eq_length_iff]
  simp [intrudes]

theorem length_assessSectors (p : RunParams) (rm : RouteMap) (ctx : Context) : (assessSectors p rm ctx).length = 128 := by
  simp [assessSectors, sectorCount]

theorem isSparse_eq (ports : PerHead Port) (c : Context) :
    isSparse ports c = decide (∃ q ∈ [HeadId.h0, HeadId.h1, HeadId.h2],
      (ports.get q).state = .streaming ∧ (c.tallies.get q).slices = 0) := by
  rw [Bool.eq_iff_iff, decide_eq_true_eq, isSparse, List.any_eq_true]
  simp

/-! ### One closure -/

/-- The Comparator after a profile, the alert line asserted or as it was (R127, R140). -/
theorem comparatorAfter_eq (p : RunParams) (cp : ClosedProfile) (a : Assessment) (x : Comparator) :
    comparatorAfter p cp a x
      = { x with
          assessed := inc32 x.assessed
          intruding := if a.runs = [] then x.intruding else inc32 x.intruding
          alertLine := x.alertLine || a.alerting
          hold := if a.alerting then some (1000 * p.alertHold) else x.hold
          lastAlert := if a.alerting then some ⟨cp.sequence, cp.ctx.station⟩ else x.lastAlert
          assertions := if (a.alerting && !x.alertLine) = true then inc32 x.assertions else x.assertions } := by
  have counted : (if a.runs.isEmpty = true then x.intruding else inc32 x.intruding)
      = if a.runs = [] then x.intruding else inc32 x.intruding := by simp only [List.isEmpty_iff]
  unfold comparatorAfter
  dsimp only
  rw [counted]
  obtain ⟨line, hold, last, assessed, intruding, assertions⟩ := x
  cases a.alerting <;> cases line <;> rfl

/-- What the Comparator takes of a context that closes (R115, R127). -/
def profileOf (reason : Option CloseReason) (c : Context) (s : State) : ClosedProfile :=
  { ctx := c, sequence := s.assembler.sequence, reason := reason, sparse := isSparse s.ports c, closeTime := s.run.timebase
    frames := s.odo.cameraFrames }

/-- The state in which a context that closes has left the set and is counted (R115). -/
def leftSet (c : Context) (s : State) : State :=
  (s.withAssembler
      { s.assembler with
        sequence := wrap32 (s.assembler.sequence + 1)
        closedLine := c.station + 1
        contexts := s.assembler.contexts.filter fun d => d.station != c.station }
    ).withCounters { s.run.counters with profilesClosed := inc32 s.run.counters.profilesClosed }

/-- What the Comparator finds in it. -/
def assessmentOf (reason : Option CloseReason) (c : Context) (s : State) : Assessment :=
  assessment s.run.params s.route (profileOf reason c s)

/-- The state in which the records of R139 are offered. -/
def offeredFrom (reason : Option CloseReason) (c : Context) (s : State) : State :=
  (leftSet c s).withComparator
    (comparatorAfter s.run.params (profileOf reason c s) (assessmentOf reason c s) s.comparator)

/-- A closure as its offers in order (R139). -/
theorem closeContext_eq (reason : Option CloseReason) (c : Context) (s : State) :
    closeContext reason c s
      = (offerProfile (profileContent s.run.params (profileOf reason c s) (assessmentOf reason c s))
          (if ((assessmentOf reason c s).alerting && !s.comparator.alertLine) = true then
            offerEvent
              (makeEvent (offerRuns (profileOf reason c s) (assessmentOf reason c s) (offeredFrom reason c s)).1 .comparator
                (alertDetail (profileOf reason c s) (assessmentOf reason c s)))
              (offerRuns (profileOf reason c s) (assessmentOf reason c s) (offeredFrom reason c s)).1
          else (offerRuns (profileOf reason c s) (assessmentOf reason c s) (offeredFrom reason c s)).1),
        (offerRuns (profileOf reason c s) (assessmentOf reason c s) (offeredFrom reason c s)).2) := rfl

theorem offerRuns_time (cp : ClosedProfile) (a : Assessment) (s : State) :
    (offerRuns cp a s).1.run.timebase = s.run.timebase ∧ (offerRuns cp a s).1.odo = s.odo := by
  unfold offerRuns
  split <;> simp

/-! ### The closures of an expired close timer -/

section
variable {s : State} {c : Context} {j : Nat}

/-- In a set in station order each context is found by its station. -/
theorem contextFor_of_mem (sorted : s.assembler.contexts.Pairwise fun c d => c.station < d.station)
    (mem : c ∈ s.assembler.contexts) : contextFor c.station s = some c := by
  unfold contextFor
  generalize s.assembler.contexts = l at sorted mem
  induction l with
  | nil => exact absurd mem List.not_mem_nil
  | cons d rest ih =>
    obtain ⟨before, sorted⟩ := List.pairwise_cons.mp sorted
    rcases List.mem_cons.mp mem with rfl | later
    · simp
    · have other : (d.station == c.station) = false := by simpa using Nat.ne_of_lt (before c later)
      simp only [List.find?_cons, other]
      exact ih sorted later

/-- The last of the contexts up to an open one's station is that one. -/
theorem getLast?_upTo (sorted : s.assembler.contexts.Pairwise fun c d => c.station < d.station)
    (mem : c ∈ s.assembler.contexts) :
    ∃ last, (s.assembler.contexts.filter fun d => decide (d.station ≤ c.station)).getLast? = some last
      ∧ last.station = c.station := by
  have here : c ∈ s.assembler.contexts.filter fun d => decide (d.station ≤ c.station) := List.mem_filter.mpr ⟨mem, by simp⟩
  cases e : (s.assembler.contexts.filter fun d => decide (d.station ≤ c.station)).getLast? with
  | none => simp [List.getLast?_eq_none_iff.mp e] at here
  | some last =>
    refine ⟨last, rfl, ?_⟩
    have low : last.station ≤ c.station := by
      simpa using (List.mem_filter.mp (List.mem_of_getLast? e)).2
    obtain ⟨front, split⟩ := List.getLast?_eq_some_iff.mp e
    have order := sorted.filter fun d => decide (d.station ≤ c.station)
    rw [split] at order here
    rcases List.mem_append.mp here with earlier | itself
    · exact absurd ((List.pairwise_append.mp order).2.2 c earlier last (List.mem_singleton_self _)) (Nat.not_lt.mpr low)
    · rw [List.mem_singleton.mp itself]

/-- The contexts left by the closures up to a station are the later ones. -/
theorem ClosedOut.later {r : State × Bool}
    (h : ClosedOut (s.assembler.contexts.filter fun d => decide (d.station ≤ j)) s r) :
    r.1.assembler.contexts = s.assembler.contexts.filter fun d => decide (j < d.station) := by
  rw [h.contexts]
  refine List.filter_congr fun d hd => ?_
  rw [decide_eq_decide]
  constructor
  · exact fun all => Nat.lt_of_not_le fun low => all d (List.mem_filter.mpr ⟨hd, by simpa using low⟩) rfl
  · intro late c hc
    have low : c.station ≤ j := by simpa using (List.mem_filter.mp hc).2
    omega

theorem ClosedOut.odo {cs : List Context} {r : State × Bool} (h : ClosedOut cs s r) : r.1.odo = s.odo := h.frame.2 .odo (by decide)

/-- After closures the run goes on, or it is halted for an INTRUSION record lost in them (R192). -/
theorem ClosedOut.decided {cs : List Context} {r : State × Bool} (_ : ClosedOut cs s r) :
    (r.2 = false ∧ afterClosures r = r.1) ∨ (r.2 = true ∧ HaltedOut .intrusionLost r.1 (afterClosures r)) := by
  unfold afterClosures
  cases r.2 with
  | false => exact .inl ⟨rfl, rfl⟩
  | true => exact .inr ⟨rfl, haltedBy_haltedOut _ _⟩

theorem ClosedOut.decided_frame {cs : List Context} {r : State × Bool} (h : ClosedOut cs s r) :
    Frame [.run, .odo, .assembler, .comparator, .queue, .faults] s (afterClosures r) := by
  have closed := h.frame.mono (l' := [.run, .odo, .assembler, .comparator, .queue, .faults]) (by decide)
  rcases h.decided with ⟨-, same⟩ | ⟨-, halted⟩
  · exact same ▸ closed
  · exact closed.trans halted.frame

/-- The counters rise by one for each context that has closed, in the closures or in the halt behind them. -/
theorem ClosedOut.counts {cs : List Context} {r : State × Bool} (h : ClosedOut cs s r) (some : 0 < cs.length)
    (left : s.assembler.contexts.length = cs.length + r.1.assembler.contexts.length) :
    let t := endEvent (afterClosures r)
    let n := s.assembler.contexts.length - t.assembler.contexts.length
    t.comparator.assessed = min 4294967295 (s.comparator.assessed + n)
      ∧ t.run.counters.profilesClosed = min 4294967295 (s.run.counters.profilesClosed + n)
      ∧ t.assembler.sequence = (s.assembler.sequence + n) % 4294967296 := by
  intro t n
  rcases h.decided with ⟨-, same⟩ | ⟨-, halted⟩
  · have closed : n = cs.length := by
      show _ - (afterClosures r).assembler.contexts.length = _
      rw [same, left, Nat.add_sub_cancel]
    rw [closed, ← iterate_inc32 some, ← iterate_inc32 some, ← iterate_nextSequence some, ← h.assessed, ← h.profilesClosed,
      ← h.sequence, ← same]
    exact ⟨rfl, rfl, rfl⟩
  · have closed : n = r.1.assembler.contexts.length + cs.length := by
      show _ - (afterClosures r).assembler.contexts.length = _
      rw [halted.contexts, left, List.length_nil, Nat.sub_zero, Nat.add_comm]
    have positive : 0 < r.1.assembler.contexts.length + cs.length := Nat.add_pos_right _ some
    rw [closed, ← iterate_inc32 positive, ← iterate_inc32 positive, ← iterate_nextSequence positive,
      Function.iterate_add_apply, Function.iterate_add_apply, Function.iterate_add_apply, ← h.assessed, ← h.profilesClosed,
      ← h.sequence]
    exact ⟨halted.assessed, halted.profilesClosed, halted.sequence⟩

/-- In RUNNING an expired close timer makes its closures, and then the decision of R192 is taken. -/
theorem exec_closeTimerExpiry (sorted : s.assembler.contexts.Pairwise fun c d => c.station < d.station)
    (running : s.run.runState = .running) (mem : c ∈ s.assembler.contexts) (due : c.timer = some 0) :
    exec (.closeTimerExpiry c.station) s
      = .next (endEvent (afterClosures (closures (fun d => some (if d.station = c.station then .timedOut else .early))
          (s.assembler.contexts.filter fun d => decide (d.station ≤ c.station)) s))) := by
  have expired : timerExpires c.timer = true := by rw [due]; rfl
  have closing : timeOutClosures c.station s = closures (fun d => some (if d.station = c.station then .timedOut else .early))
      (s.assembler.contexts.filter fun d => decide (d.station ≤ c.station)) s := (closures_eq_closeAll _ _ _).symm
  have survey : inSurvey (timeOutClosures c.station s).1.run.runState = true := by
    rw [closing, (closures_closedOut _ _ s).run, running]
    rfl
  show Host.Outcome.next (closeTimerExpires c.station s) = _
  rw [closeTimerExpires, contextFor_of_mem sorted mem]
  dsimp only
  rw [if_pos expired, decideHalt_eq_afterClosures _ survey, closing]

theorem exec_closeTimerExpiry_early (sorted : s.assembler.contexts.Pairwise fun c d => c.station < d.station)
    (mem : c ∈ s.assembler.contexts) (early : c.timer ≠ some 0) : exec (.closeTimerExpiry c.station) s = .next s := by
  have unexpired : ¬timerExpires c.timer = true := by simpa [timerExpires] using early
  show Host.Outcome.next (closeTimerExpires c.station s) = _
  rw [closeTimerExpires, contextFor_of_mem sorted mem]
  dsimp only
  rw [if_neg unexpired]

end

/-- Settles O22: one closure is its offers in the order of R139; several are counted one by one. -/
theorem Claims.closeTimerExpires : Obligations.CloseTimerExpires := by
  refine ⟨?written, ?several, fun j s c laws running mem station => ⟨fun early => ?early, fun due => ?due⟩⟩
  case several =>
    intro reason cs last s hlast d
    have closed := closures_closedOut reason cs s
    have some : 0 < cs.length := List.length_pos_of_ne_nil fun none => by simp [none] at hlast
    have line := closed.closedLine
    rw [hlast] at line
    refine ⟨closed.frame, closed.contexts, line, ?_, ?_, ?_, ?_, ?_, fun stays => ?_, closed.lost⟩
    · rw [closed.sequence, iterate_nextSequence some]
    · rw [closed.profilesClosed, iterate_inc32 some]
    · rw [closed.assessed, iterate_inc32 some]
    · rw [closed.run]
    · rw [closed.run]
    · obtain ⟨hard, hardReported, intrusionLost, intrusionsDropped⟩ := closed.noneLost stays
      exact ⟨hard, hardReported, intrusionLost, intrusionsDropped⟩
  case early =>
    subst station
    exact exec_closeTimerExpiry_early laws.1 mem early
  case due =>
    subst station
    have taken := exec_closeTimerExpiry laws.1 running mem due
    obtain ⟨last, isLast, atStation⟩ := getLast?_upTo laws.1 mem
    have closed := closures_closedOut (fun d => some (if d.station = c.station then .timedOut else .early))
      (s.assembler.contexts.filter fun d => decide (d.station ≤ c.station)) s
    have line : _ = c.station + 1 := closed.closedLine.trans (by rw [isLast, ← atStation]; rfl)
    have some : 0 < (s.assembler.contexts.filter fun d => decide (d.station ≤ c.station)).length :=
      List.length_pos_of_mem (List.mem_of_getLast? isLast)
    have split := List.length_eq_length_filter_add (l := s.assembler.contexts) fun d => decide (d.station ≤ c.station)
    have rest : (s.assembler.contexts.filter fun d => !decide (d.station ≤ c.station))
        = s.assembler.contexts.filter fun d => decide (c.station < d.station) :=
      List.filter_congr fun d _ => by rw [← decide_not, decide_eq_decide, Nat.not_le]
    rw [rest, ← closed.later] at split
    obtain ⟨assessed, profilesClosed, sequence⟩ := closed.counts some split
    refine ⟨taken, _, taken, endEvent_frame (closed.decided_frame) (by decide), ?_, assessed, profilesClosed, sequence⟩
    rcases closed.decided with ⟨stays, same⟩ | ⟨-, halted⟩
    · exact .inl ⟨by rw [same, endEvent_run, closed.run]; exact running, by rw [same, endEvent_odo, closed.odo], by rw [same]; exact line,
        by rw [same]; exact closed.later⟩
    · exact .inr ⟨by rw [endEvent_run, halted.run], halted.contexts, halted.odo.trans (by rw [closed.odo]; rfl)⟩
  case written =>
    intro reason c s p sectors runs depth number entry alerting asserted sequence closed intrusion offered told spanned header
    have copied : entry = entryOf c.copy := rfl
    have alerts : (assessmentOf reason c s).alerting = alerting := meetsAlert_eq c.copy p depth
    have full : (assessmentOf reason c s).fullRing = decide (number .intrusion = 128) :=
      searchStart_isNone_eq (length_assessSectors p s.route c)
    have state : offeredFrom reason c s = closed := by
      unfold offeredFrom
      have others : (fun d : Context => d.station != c.station) = fun d => decide (d.station ≠ c.station) := by
        funext d
        simp [bne, beq_eq_decide]
      rw [comparatorAfter_eq, alerts, leftSet, others]
      rfl
    have record : intrusionRecord (profileOf reason c s) (assessmentOf reason c s) = intrusion := by
      unfold intrusionRecord
      rw [full, alerts, copyEntry_eq, copyEnvelopeId_eq]
      rfl
    have offers : offerRuns (profileOf reason c s) (assessmentOf reason c s) closed = offered := by
      unfold offerRuns
      rw [record]
      simp only [List.isEmpty_iff]
      rfl
    have event : makeEvent offered.1 .comparator (alertDetail (profileOf reason c s) (assessmentOf reason c s))
        = ⟨.comparator, s.run.timebase, s.odo.c,
            .alert sequence c.station ((entry.map EntryCopy.entry).getD 65535) (depth.getD 0) runs.length⟩ := by
      obtain ⟨time, odo⟩ := offerRuns_time (profileOf reason c s) (assessmentOf reason c s) closed
      rw [offers] at time odo
      unfold makeEvent alertDetail
      rw [time, odo, copyEntry_eq]
      rfl
    have flags : profileFlags (profileOf reason c s) (assessmentOf reason c s) = header.flags := by
      unfold profileFlags
      have intrudes_eq : (assessmentOf reason c s).sectors.any intrudes = decide (number .intrusion ≠ 0) := any_class_eq .intrusion _
      have mode (m : OdoMode) : (c.worst == m) = decide (c.worst = m) := beq_eq_decide _ _
      rw [alerts, full, intrudes_eq, any_class_eq, copyUnmapped_eq, copyNoAssess_eq, profileOf, isSparse_eq]
      dsimp only
      rw [mode, mode]
      rfl
    have content : profileContent s.run.params (profileOf reason c s) (assessmentOf reason c s)
        = ⟨header, sectors.map fun a => ⟨a.acc.minRadius, a.acc.count, a.cls, a.acc.heads⟩, groupsOf sectors⟩ := by
      unfold profileContent profileHeader
      rw [flags, classCount_eq, classCount_eq, classCount_eq, copyEntry_eq, copyEnvelopeId_eq, throwsOf_eq]
      rfl
    rw [closeContext_eq, state, offers, event, content, alerts]

end Sys2Proof.Machine

/-! The expiries that end a run or the alert (R141, R187 to R191), a port that leaves STREAMING in RUNNING (R188, R120), and STOP
(R11, R12, R122). -/

namespace Sys2Proof.Machine

/-! ### The RUN_END record behind closures -/

section
variable {cs : List Context} {s : State} {r : State × Bool}

/-- What a RUN_END record says of the run when it is built behind closures: the run's own figures, and those closures. -/
theorem ClosedOut.runEnd (h : ClosedOut cs s r) (reason : EndReason) (fault : Option EventKind) :
    let e := runEndNow reason fault r.1
    e.reason = reason ∧ e.haltFault = fault ∧ e.runNumber = s.run.runNumber ∧ e.startTime = s.run.startTime
      ∧ e.endTime = s.run.timebase ∧ e.finalC = s.odo.c ∧ e.finalH = s.odo.h
      ∧ (cs ≠ [] → e.counters.profilesClosed = min 4294967295 (s.run.counters.profilesClosed + cs.length)
        ∧ e.lastSequence = some ((s.assembler.sequence + cs.length + 4294967295) % 4294967296)) := by
  intro e
  have odo : r.1.odo = s.odo := h.odo
  refine ⟨rfl, rfl, ?_, ?_, ?_, ?_, ?_, fun closes => ?_⟩
  · show r.1.run.runNumber = _
    rw [h.run]
  · show r.1.run.startTime = _
    rw [h.run]
  · show r.1.run.timebase = _
    rw [h.run]
  · show r.1.odo.c = _
    rw [odo]
  · show r.1.odo.h = _
    rw [odo]
  · have some : 0 < cs.length := List.length_pos_of_ne_nil closes
    have count : r.1.run.counters.profilesClosed = min 4294967295 (s.run.counters.profilesClosed + cs.length) := by
      rw [h.profilesClosed, iterate_inc32 some]
    have closed : ¬(r.1.assembler.sequence = 0 ∧ r.1.run.counters.profilesClosed = 0) := by
      rw [count]
      omega
    refine ⟨count, ?_⟩
    show (if _ then none else Option.some _) = _
    rw [if_neg closed, h.sequence, iterate_nextSequence some, Nat.mod_add_mod]

end

/-- The halt leaves a RUN_END record of its fault, which reports the closures of the halt. -/
theorem haltedBy_runEnd (fault : EventKind) (s : State) :
    ∃ e, recorded (.runEnd e) (haltedBy fault s).queue ∧ e.reason = .halted ∧ e.haltFault = some fault
      ∧ e.runNumber = s.run.runNumber ∧ e.startTime = s.run.startTime ∧ e.endTime = s.run.timebase ∧ e.finalC = s.odo.c
      ∧ e.finalH = s.odo.h
      ∧ (s.assembler.contexts ≠ [] →
        e.counters.profilesClosed = min 4294967295 (s.run.counters.profilesClosed + s.assembler.contexts.length)
          ∧ e.lastSequence = some ((s.assembler.sequence + s.assembler.contexts.length + 4294967295) % 4294967296)) :=
  ⟨_, (haltedBy_haltedOut fault s).runEnd, (closures_closedOut _ s.assembler.contexts s).runEnd .halted (some fault)⟩

/-! ### A hard fault in a survey -/

/-- What the taking of a hard fault makes of a state within a survey (R187, R191). -/
structure RunHalted (source : Source) (detail : EventDetail) (s t : State) : Prop where
  frame : Frame [.run, .odo, .assembler, .comparator, .queue, .faults] s t
  runState : t.run.runState = .halted
  contexts : t.assembler.contexts = []
  odo : t.odo = handOver s.odo
  headLoss : t.faults.headLoss = none
  linkLoss : t.faults.linkLoss = none
  kept : s.faults.hard.lock = true → t.faults.hard.record = s.faults.hard.record
  captured : s.faults.hard.lock = false → t.faults.hard.lock = true
    ∧ t.faults.hard.record = some (faultRecordOf (makeEvent s source detail))
  runEnd : ∃ e, recorded (.runEnd e) t.queue ∧ e.reason = .halted ∧ e.haltFault = some (eventKind detail)
    ∧ e.runNumber = s.run.runNumber ∧ e.startTime = s.run.startTime ∧ e.endTime = s.run.timebase ∧ e.finalC = s.odo.c
    ∧ e.finalH = s.odo.h
    ∧ (s.assembler.contexts ≠ [] →
      e.counters.profilesClosed = min 4294967295 (s.run.counters.profilesClosed + s.assembler.contexts.length)
        ∧ e.lastSequence = some ((s.assembler.sequence + s.assembler.contexts.length + 4294967295) % 4294967296))

section
variable {s : State} {f : FaultCapture} {source : Source} {detail : EventDetail}

theorem takeHardFault_of_survey (survey : inSurvey s.run.runState = true) :
    takeHardFault source detail s = haltedBy (eventKind detail) (raiseHard source detail s) := by
  have still : inSurvey (raiseHard source detail s).run.runState = true := by simpa using survey
  rw [takeHardFault, if_pos still, haltRun_eq_haltedBy]

theorem raiseHard_frame : Frame [.run, .queue, .faults] s (raiseHard source detail s) := by
  refine Frame.trans ?_ (offerEvent_frame _ _)
  exact ⟨rfl, fun b outside => by
    cases b with
    | faults => simp at outside
    | _ => rfl⟩

/-- The hard slot, free before, holds the fault; locked, it keeps its record. -/
theorem raiseHard_slot :
    (raiseHard source detail s).faults.hard = captureIn (faultRecordOf (makeEvent s source detail)) s.faults.hard :=
  (offerEvent_noneLost _ _).hard

theorem takeHardFault_runHalted (survey : inSurvey s.run.runState = true) (hard : f.hard = s.faults.hard) :
    RunHalted source detail s (endEvent (takeHardFault source detail (s.withFaults f))) := by
  have raised := raiseHard_frame (s := s.withFaults f) (source := source) (detail := detail)
  have slot := raiseHard_slot (s := s.withFaults f) (source := source) (detail := detail)
  have halted := haltedBy_haltedOut (eventKind detail) (raiseHard source detail (s.withFaults f))
  obtain ⟨e, stays, runEnd⟩ := haltedBy_runEnd (eventKind detail) (raiseHard source detail (s.withFaults f))
  have made : faultRecordOf (makeEvent (s.withFaults f) source detail) = faultRecordOf (makeEvent s source detail) := rfl
  rw [State.withFaults_faults, hard, made] at slot
  simp only [raiseHard_assembler, raiseHard_run_runNumber, raiseHard_run_startTime, raiseHard_run_timebase, raiseHard_odo,
    raiseHard_run_profilesClosed] at runEnd
  have survey' : inSurvey (s.withFaults f).run.runState = true := survey
  rw [takeHardFault_of_survey survey']
  refine
    { frame := endEvent_frame ?frame (by decide)
      runState := by rw [endEvent_run, halted.run]
      contexts := halted.contexts
      odo := by rw [endEvent_odo, halted.odo, raiseHard_odo]; rfl
      headLoss := halted.headLoss
      linkLoss := halted.linkLoss
      kept := fun locked => ?kept
      captured := fun free => ?captured
      runEnd := ⟨_, endEvent_recorded stays, runEnd⟩ }
  case frame =>
    have set : Frame [.faults] s (s.withFaults f) := ⟨rfl, fun b outside => by
      cases b with
      | faults => simp at outside
      | _ => rfl⟩
    exact ((set.mono (by decide)).trans (raised.mono (by decide))).trans halted.frame
  case kept =>
    have same : (raiseHard source detail (s.withFaults f)).faults.hard.record = s.faults.hard.record := by
      rw [slot]
      exact (slotKept_captureIn _ _).1.1 locked
    have lock : (raiseHard source detail (s.withFaults f)).faults.hard.lock = true := by
      rw [slot]
      exact captureIn_lock _ _
    exact (halted.slot.1.1 lock).trans same
  case captured =>
    have taken : captureIn (faultRecordOf (makeEvent s source detail)) s.faults.hard
        = { s.faults.hard with record := some (faultRecordOf (makeEvent s source detail)), lock := true } :=
      if_neg (by simp [free])
    rw [taken] at slot
    have lock : (raiseHard source detail (s.withFaults f)).faults.hard.lock = true := by rw [slot]
    exact ⟨halted.slot.2 lock, (halted.slot.1.1 lock).trans (by rw [slot])⟩

end

/-! ### The loss timers and the hold timer -/

theorem survey_iff (state : RunState) : inSurvey state = true ↔ state = .running ∨ state = .draining := by
  cases state <;> decide

section
variable {s : State}

theorem exec_headLoss_early (early : s.faults.headLoss ≠ some 0) : exec .headLossTimerExpiry s = .next s := by
  have unexpired : ¬timerExpires s.faults.headLoss = true := by simpa [timerExpires] using early
  exact congrArg Host.Outcome.next (if_neg unexpired)

theorem exec_headLoss_due (due : s.faults.headLoss = some 0) :
    exec .headLossTimerExpiry s
      = .next (endEvent (takeHardFault .headPorts
          (.headsLost (lowestStation s) s.run.params.headLossLimit (s.ports.map Port.state))
          (s.withFaults { s.faults with headLoss := none }))) := by
  have expired : timerExpires s.faults.headLoss = true := by rw [due]; rfl
  exact congrArg Host.Outcome.next (if_pos expired)

theorem exec_linkLoss_early (early : s.faults.linkLoss ≠ some 0) : exec .linkLossTimerExpiry s = .next s := by
  have unexpired : ¬timerExpires s.faults.linkLoss = true := by simpa [timerExpires] using early
  exact congrArg Host.Outcome.next (if_neg unexpired)

theorem exec_linkLoss_due (due : s.faults.linkLoss = some 0) :
    exec .linkLossTimerExpiry s
      = .next (endEvent (takeHardFault .trunkLink
          (.linkLost (lowestStation s) s.run.params.linkLossLimit (occupancy s.queue))
          (s.withFaults { s.faults with linkLoss := none }))) := by
  have expired : timerExpires s.faults.linkLoss = true := by rw [due]; rfl
  exact congrArg Host.Outcome.next (if_pos expired)

end

/-- Settles O23: both loss timers take their hard fault within the survey. -/
theorem lossAndHoldTimersExpire : Obligations.LossAndHoldTimersExpire := by
  have outcome {s t : State} {source : Source} {detail : EventDetail} (h : RunHalted source detail s t)
      (station : faultStation detail = s.assembler.contexts.head?.map Context.station) :
      Frame [.run, .odo, .assembler, .comparator, .queue, .faults] s t ∧ t.run.runState = .halted ∧ t.assembler.contexts = []
        ∧ t.odo = { s.odo with h := s.odo.c, r := 0, reversed := false }
        ∧ t.faults.headLoss = none ∧ t.faults.linkLoss = none
        ∧ (s.faults.hard.lock = true → t.faults.hard.record = s.faults.hard.record)
        ∧ (s.faults.hard.lock = false → ∃ r, t.faults.hard.record = some r ∧ t.faults.hard.lock = true
          ∧ r.kind = eventKind detail ∧ r.source = source ∧ r.time = s.run.timebase ∧ r.chainage = s.odo.c
          ∧ r.station = s.assembler.contexts.head?.map Context.station)
        ∧ ∃ e, (Record.runEnd e ∈ t.queue.control ∨ Record.runEnd e ∈ t.queue.holder) ∧ e.reason = .halted
          ∧ e.haltFault = some (eventKind detail) ∧ e.runNumber = s.run.runNumber ∧ e.startTime = s.run.startTime
          ∧ e.endTime = s.run.timebase ∧ e.finalC = s.odo.c ∧ e.finalH = s.odo.h
          ∧ (s.assembler.contexts ≠ [] →
            e.counters.profilesClosed = min 4294967295 (s.run.counters.profilesClosed + s.assembler.contexts.length)
              ∧ e.lastSequence
                = some ((s.assembler.sequence + s.assembler.contexts.length + 4294967295) % 4294967296)) := by
    refine ⟨h.frame, h.runState, h.contexts, h.odo, h.headLoss, h.linkLoss, h.kept, fun free => ?_, h.runEnd⟩
    obtain ⟨lock, record⟩ := h.captured free
    exact ⟨_, record, lock, rfl, rfl, rfl, rfl, station⟩
  refine ⟨fun s c timer kind source expiry => ?_, fun s survey => ?_, fun s => ⟨fun early => ?_, fun due => ?_⟩⟩
  · rcases List.mem_pair.mp expiry with case' | case' <;> cases case'
    · refine ⟨exec_headLoss_early, fun due survey => ⟨_, exec_headLoss_due due, ?_⟩⟩
      have halted := takeHardFault_runHalted (f := { s.faults with headLoss := none }) (source := .headPorts)
        (detail := .headsLost (lowestStation s) s.run.params.headLossLimit (s.ports.map Port.state))
        ((survey_iff _).mpr survey) rfl
      exact outcome halted rfl
    · refine ⟨exec_linkLoss_early, fun due survey => ⟨_, exec_linkLoss_due due, ?_⟩⟩
      have halted := takeHardFault_runHalted (f := { s.faults with linkLoss := none }) (source := .trunkLink)
        (detail := .linkLost (lowestStation s) s.run.params.linkLossLimit (occupancy s.queue))
        ((survey_iff _).mpr survey) rfl
      exact outcome halted rfl
  · have on (f : FaultCapture) : inSurvey (s.withFaults f).run.runState = true := (survey_iff _).mpr survey
    refine ⟨fun due => ?_, fun due => ?_⟩
    · rw [exec_headLoss_due due, takeHardFault_of_survey (on _)]
      rfl
    · rw [exec_linkLoss_due due, takeHardFault_of_survey (on _)]
      rfl
  · have unexpired : ¬timerExpires s.comparator.hold = true := by simpa [timerExpires] using early
    exact congrArg Host.Outcome.next (if_neg unexpired)
  · have expired : timerExpires s.comparator.hold = true := by rw [due]; rfl
    exact congrArg Host.Outcome.next (if_pos expired)

end Sys2Proof.Machine

/-! A port that leaves STREAMING in RUNNING: the head-loss timer (R188), the progress closures (R119, R120) and the halt (R192). -/

namespace Sys2Proof.Machine

/-! ### The progress condition -/

/-- The progress condition in words of the state (R119). -/
theorem progressHolds_iff (s : State) (j : Nat) :
    progressHolds s j = true
      ↔ (∃ q, (s.ports.get q).state = .streaming)
        ∧ ∀ q, (s.ports.get q).state = .streaming →
          ∃ k, s.assembler.lastStation.get q = some k ∧ j + s.run.params.closeLag ≤ k := by
  have passed (q : HeadId) : ((s.ports.get q).state != .streaming ||
        (match s.assembler.lastStation.get q with
        | some k => decide (j + s.run.params.closeLag ≤ k)
        | none => false)) = true
      ↔ ((s.ports.get q).state = .streaming → ∃ k, s.assembler.lastStation.get q = some k ∧ j + s.run.params.closeLag ≤ k) := by
    rw [Bool.or_eq_true, bne_iff_ne, ← imp_iff_not_or]
    refine imp_congr_right fun _ => ?_
    cases s.assembler.lastStation.get q <;> simp
  unfold progressHolds
  rw [Bool.and_eq_true, anyStreaming_eq, List.all_eq_true]
  refine and_congr_right fun _ => ⟨fun all q => (passed q).mp (all q ?_), fun all q _ => (passed q).mpr (all q)⟩
  cases q <;> simp

/-! ### A departure -/

/-- The state in which the progress test of a departure is made: the port's record, and the head-loss timer started when no other
port streams. -/
def departedState (p : HeadId) (s u : State) (after : Port) : State :=
  { u with
    ports := s.ports.set p after
    faults :=
      { u.faults with
        headLoss :=
          if ∃ q ∈ [HeadId.h0, HeadId.h1, HeadId.h2], q ≠ p ∧ (s.ports.get q).state = .streaming then none
          else some (1000 * s.run.params.headLossLimit) } }

/-- The state after a departure: the progress closures, the decision of R192 and the end of the event. -/
def departed (p : HeadId) (s u : State) (after : Port) : State :=
  endEvent (afterClosures (closures (fun _ => none)
    (s.assembler.contexts.filter fun c => progressHolds (departedState p s u after) c.station) (departedState p s u after)))

section
variable {p : HeadId} {s u : State} {after : Port}

theorem anyStreaming_departed (left : after.state ≠ .streaming) :
    anyStreaming (s.ports.set p after) = true
      ↔ ∃ q ∈ [HeadId.h0, HeadId.h1, HeadId.h2], q ≠ p ∧ (s.ports.get q).state = .streaming := by
  rw [anyStreaming_eq]
  refine exists_congr fun q => ?_
  have listed : q ∈ [HeadId.h0, HeadId.h1, HeadId.h2] := by cases q <;> simp
  by_cases e : q = p
  · subst e
    simp [left]
  · rw [PerHead.get_set_ne _ _ _ _ e]
    simp [listed, e]

/-- What a departure reads of the state in which its event has been raised. -/
structure EventRaised (s u : State) : Prop where
  ports : u.ports = s.ports
  assembler : u.assembler = s.assembler
  runState : u.run.runState = s.run.runState
  params : u.run.params = s.run.params
  headLoss : u.faults.headLoss = s.faults.headLoss

theorem EventRaised.refl (s : State) : EventRaised s s := ⟨rfl, rfl, rfl, rfl, rfl⟩

theorem raiseSoft_eventRaised (source : Source) (detail : EventDetail) (s : State) : EventRaised s (raiseSoft source detail s) := by
  constructor <;> simp

/-- The departure with its event raised already. -/
theorem endEvent_leftFrom (e : EventRaised s u) (running : s.run.runState = .running) (stopped : s.faults.headLoss = none)
    (left : after.state ≠ .streaming) :
    endEvent (leftFrom .streaming (u.withPort p after)) = departed p s u after := by
  have ports : (u.withPort p after).ports = s.ports.set p after := by rw [State.withPort_ports, e.ports]
  have started : startHeadLoss (u.withPort p after) = departedState p s u after := by
    have timer : u.faults.headLoss = none := e.headLoss.trans stopped
    have limit : (u.withPort p after).run.params = s.run.params := e.params
    unfold startHeadLoss departedState
    rw [ports, State.withPort_faults, limit]
    by_cases some : anyStreaming (s.ports.set p after) = true
    · rw [if_pos some, if_pos ((anyStreaming_departed left).mp some), State.withPort, e.ports, ← timer]
      rfl
    · rw [if_neg some, if_neg (mt (anyStreaming_departed left).mpr some), if_neg (by simp [timer]), State.withPort, e.ports]
      rfl
  have runs : (u.withPort p after).run.runState = .running := e.runState.trans running
  have tested : progressTest (departedState p s u after) = closures (fun _ => none)
      (s.assembler.contexts.filter fun c => progressHolds (departedState p s u after) c.station) (departedState p s u after) := by
    rw [closures_eq_closeAll, ← e.assembler]
    rfl
  unfold leftFrom afterLeaving
  rw [if_pos rfl, if_pos runs, started, tested]
  refine congrArg endEvent (decideHalt_eq_afterClosures _ ?_)
  rw [(closures_closedOut _ _ _).run]
  exact (survey_iff _).mpr (.inl runs)

/-! ### The three departures -/

theorem exec_headCarrierLoss_departed (running : s.run.runState = .running) (streams : (s.ports.get p).state = .streaming)
    (stopped : s.faults.headLoss = none) :
    exec (.headCarrierLoss p) s = .next (departed p s s (portCarrierLoss (s.ports.get p))) := by
  show Host.Outcome.next (endEvent (leftFrom (s.ports.get p).state (s.withPort p (portCarrierLoss (s.ports.get p))))) = _
  rw [streams, endEvent_leftFrom (.refl s) running stopped (by simp [portCarrierLoss, idlePort])]

theorem exec_silenceTimerExpiry_departed (running : s.run.runState = .running)
    (streams : (s.ports.get p).state = .streaming) (stopped : s.faults.headLoss = none)
    (due : (s.ports.get p).silence = some 0) :
    exec (.silenceTimerExpiry p) s
      = .next (departed p s
          (raiseSoft (.port p) (.headSilent ((s.ports.get p).revolution.getD 0) ((s.ports.get p).expected.getD 0)) s)
          (idlePort .silent (s.ports.get p))) := by
  have expired : ((s.ports.get p).state = .streaming && timerExpires (s.ports.get p).silence) = true := by
    rw [streams, due]
    rfl
  rw [← endEvent_leftFrom (raiseSoft_eventRaised _ _ s) running stopped (by simp [idlePort]), ← raiseSoft_withPort]
  show Host.Outcome.next (endEvent (silenceExpires p s)) = _
  unfold silenceExpires
  dsimp only
  rw [if_pos expired]
  rfl

theorem exec_headStatus_departed {temperature : Int} {code : Nat} (running : s.run.runState = .running)
    (streams : (s.ports.get p).state = .streaming) (stopped : s.faults.headLoss = none) (lo : -128 ≤ temperature)
    (hi : temperature ≤ 127) (hcode : code ≤ 255) :
    exec (.headStatus p (statusPayload .fault temperature code)) s
      = .next (departed p s (raiseSoft (.port p) (.headFault code temperature) s)
          (idlePort .faulted { s.ports.get p with lastStatus := some ⟨.fault, code⟩ })) := by
  have examines : examinesFrames (s.ports.get p).state = true := by
    rw [streams]
    rfl
  have elsewhere : ¬(s.ports.get p).state = .faulted := by simp [streams]
  rw [exec_headStatus_good .fault lo hi hcode examines, goodStatus,
    ← endEvent_leftFrom (raiseSoft_eventRaised _ _ s) running stopped (by simp [idlePort]), ← raiseSoft_withPort]
  unfold statusFault
  dsimp only
  rw [if_neg elsewhere, streams]

/-! ### With no context open -/

theorem raiseSoft_frame (source : Source) (detail : EventDetail) (s : State) :
    Frame [.run, .queue, .faults] s (raiseSoft source detail s) :=
  (offerEvent_frame (makeEvent s source detail) s).trans ⟨rfl, fun b outside => by
    cases b with
    | faults => simp at outside
    | _ => rfl⟩

/-- With no context open a departure closes nothing, and only the head-loss timer follows. -/
theorem departed_of_empty (empty : s.assembler.contexts = []) (frame : Frame [.run, .queue, .faults] s u) (runState : u.run.runState = s.run.runState)
    (linkLoss : u.faults.linkLoss = s.faults.linkLoss) (hard : u.faults.hard = s.faults.hard)
    (running : s.run.runState = .running) (left : after.state ≠ .streaming) (expected : after.expected = none)
    (revolution : after.revolution = none) (silence : after.silence = none) :
    let t := departed p s u after
    Frame [.ports, .run, .queue, .faults] s t
      ∧ otherPortsSame p s t
      ∧ t.run.runState = .running ∧ (t.ports.get p).state ≠ .streaming ∧ (t.ports.get p).expected = none
      ∧ (t.ports.get p).revolution = none ∧ (t.ports.get p).silence = none
      ∧ ((∃ q, q ≠ p ∧ (s.ports.get q).state = .streaming) → t.faults.headLoss = none)
      ∧ ((∀ q, q ≠ p → (s.ports.get q).state ≠ .streaming) →
        t.faults.headLoss = some (1000 * s.run.params.headLossLimit))
      ∧ t.faults.linkLoss = s.faults.linkLoss ∧ t.faults.hard = s.faults.hard := by
  intro t
  have unclosed : t = endEvent (departedState p s u after) := by
    show departed p s u after = _
    rw [departed, empty]
    rfl
  rw [unclosed]
  have here : (endEvent (departedState p s u after)).ports.get p = after := PerHead.get_set _ _ _
  refine ⟨endEvent_frame ((frame.mono (by decide)).trans ?_) (by decide), fun q other => PerHead.get_set_ne _ _ _ _ other,
    runState.trans running, by rw [here]; exact left, by rw [here]; exact expected,
    by rw [here]; exact revolution, by rw [here]; exact silence, ?_, ?_, linkLoss, hard⟩
  · exact ⟨rfl, fun b outside => by
      cases b with
      | ports | faults => simp at outside
      | _ => rfl⟩
  · rintro ⟨q, other, streams⟩
    exact if_pos ⟨q, by cases q <;> simp, other, streams⟩
  · intro silent
    exact if_neg fun ⟨q, _, other, streams⟩ => silent q other streams

end

/-- Settles O6: each departure is the port's new record, the head-loss timer and the progress closures behind its event. -/
theorem lastStreamingPortStartsHeadLoss : Obligations.LastStreamingPortStartsHeadLoss := by
  refine ⟨fun p s running streams stopped => ⟨?carrier, ?silence, ?fault⟩, progressHolds_iff,
    fun p s c running streams stopped empty command => ?_⟩
  case carrier => exact exec_headCarrierLoss_departed running streams stopped
  case silence =>
    intro expected current due expects turns
    have taken := exec_silenceTimerExpiry_departed running streams stopped due
    rw [expects, turns] at taken
    exact taken
  case fault => exact fun temperature code lo hi hcode => exec_headStatus_departed running streams stopped lo hi hcode
  have soft (detail : EventDetail) (after : Port) (left : after.state ≠ .streaming) (expected : after.expected = none)
      (revolution : after.revolution = none) (silence : after.silence = none) :=
    departed_of_empty (p := p) (after := after) empty (raiseSoft_frame (.port p) detail s) (by simp) (by simp)
      (raiseSoft_noneLost _ _ s).hard running left expected revolution silence
  rcases command with rfl | ⟨rfl, due⟩ | ⟨temperature, code, lo, hi, hcode, rfl⟩
  · exact ⟨_, exec_headCarrierLoss_departed running streams stopped,
      departed_of_empty empty (.refl _ s) rfl rfl rfl running (by simp [portCarrierLoss, idlePort]) rfl rfl rfl⟩
  · exact ⟨_, exec_silenceTimerExpiry_departed running streams stopped due, soft _ _ (by simp [idlePort]) rfl rfl rfl⟩
  · exact ⟨_, exec_headStatus_departed running streams stopped lo hi hcode, soft _ _ (by simp [idlePort]) rfl rfl rfl⟩

end Sys2Proof.Machine

/-! The taking of a request by its answer (R168 to R171), and the requests that touch few items: IDENTIFY, SET TIME, SET LEVEL
FLOOR and ACK FAULT; what a refused request leaves. -/

namespace Sys2Proof.Machine

/-! ### The taking by its answer -/

section
variable {s : State} {code n : Nat} {payload answer : List Byte} {r : Request} {rest : List Request}
  {body : List Byte → State → State × Reply} {t : State} {reply : Reply}

theorem Takes.code_eq (h : Takes s code payload r rest) (small : code < 256) : r.kind.toNat = code := by
  rw [h.kind, BitVec.toNat_ofNat, Nat.mod_eq_of_lt small]

theorem Takes.length_eq (h : Takes s code payload r rest) (size : payload.length = n) : r.payload.length = n := h.content ▸ size

/-- What a taking answers. -/
theorem Takes.replies (h : Takes s code payload r rest) (small : code < 256)
    (e : body payload (beginTaking rest s) = (t, reply)) :
    takeKind code body s
      = answered t r t.mgmt.intake reply.status reply.payload (reply.stamp.getD s.run.timebase) := by
  rw [takeKind_ready h.ready (h.code_eq small), h.content, e]

/-- A request carried out at its taking, its payload of the fixed length. -/
theorem Takes.accepts (h : Takes s code payload r rest) (small : code < 256) (size : payload.length = n)
    (e : body payload (beginTaking rest s) = accept answer t) :
    takeKind code (withLength n body) s = answered t r t.mgmt.intake .ok answer s.run.timebase :=
  h.replies small ((withLength_eq size).trans e)

/-- A request refused at its taking with nothing changed. -/
theorem takeKind_refused {status : Status} (h : Ready s r rest) (kind : r.kind.toNat = code)
    (e : body r.payload (beginTaking rest s) = refuse status answer (beginTaking rest s)) :
    takeKind code body s = answered s r rest status answer s.run.timebase := by
  rw [takeKind_ready h kind, e]
  rfl

end

/-! ### IDENTIFY, SET TIME and BAD_KIND -/

/-- A byte whose value is no kind code of R198. -/
theorem definedKind_eq_false {k : Nat} (h : k = 0 ∨ 26 < k) : definedKind k = false := by
  simp only [definedKind, Bool.and_eq_false_iff, decide_eq_false_iff_not]
  omega

/-- Settles O35. -/
theorem identifyTimeAndBadKind : Obligations.IdentifyTimeAndBadKind := by
  intro s r rest
  refine ⟨fun h => ?_, fun v small h => ?_, fun ready undefined => ?_⟩
  · exact congrArg Host.Outcome.next (h.accepts (body := fun _ s => accept identification s) (by decide) rfl rfl)
  · have field : fieldU 0 4 (encU 4 v) = v := fieldU_whole (by omega)
    have set : withLength 4 setTime (encU 4 v) (beginTaking rest s)
        = ((beginTaking rest s).withRun { s.run with timebase := v },
          { status := .ok, payload := encU 4 s.run.timebase, stamp := if Config.setTimeStampsNew then some v else none }) := by
      rw [withLength_eq (length_encU ..), setTime, field]
      rfl
    refine congrArg Host.Outcome.next ((h.replies (by decide) set).trans ?_)
    cases Config.setTimeStampsNew <;> rfl
  · exact congrArg Host.Outcome.next (takeRequest_ready ready (by simp [definedKind_eq_false undefined]))

/-! ### SET LEVEL FLOOR and ACK FAULT -/

/-- Settles O46. -/
theorem floorAndAcknowledge : Obligations.FloorAndAcknowledge := by
  intro s r rest
  refine ⟨fun f small h => ?_, fun h => ?_, fun h => ?_⟩
  · have field : fieldU 0 1 (encU 1 f) = f := fieldU_whole (by omega)
    have raised : max s.queue.level f = if s.queue.level < f then f else s.queue.level := by
      split <;> omega
    have set : setLevelFloor (encU 1 f) (beginTaking rest s)
        = accept (encU 1 (if s.queue.level < f then f else s.queue.level))
          ((beginTaking rest s).withQueue
            { (beginTaking rest s).queue with floor := f, level := if s.queue.level < f then f else s.queue.level }) := by
      rw [setLevelFloor, field, if_neg (by omega), ← raised]
      rfl
    exact congrArg Host.Outcome.next (h.accepts (by decide) (length_encU ..) set)
  · exact congrArg Host.Outcome.next (h.accepts (n := 1) (body := ackFault) (by decide) rfl rfl)
  · exact congrArg Host.Outcome.next (h.accepts (n := 1) (body := ackFault) (by decide) rfl rfl)

/-! ### What a refused request leaves -/

/-- An answer of a body: a request refused with nothing changed, or one carried out. -/
inductive Answers (s : State) : State × Reply → Prop where
  | refused (status : Status) (payload : List Byte) : Answers s (refuse status payload s)
  | done {r : State × Reply} : r.2.status = .ok → Answers s r

section
variable {s u : State} {p : List Byte}

@[simp] theorem answers_refuse (status : Status) (payload : List Byte) : Answers s (refuse status payload s) :=
  .refused status payload

@[simp] theorem answers_badField (n : Nat) : Answers s (badField n s) := .refused .badValue (encU 1 n)

@[simp] theorem answers_accept (payload : List Byte) : Answers s (accept payload u) := .done rfl

theorem withLength_answers {n : Nat} {body : List Byte → State → State × Reply} (h : Answers s (body p s)) :
    Answers s (withLength n body p s) := by
  unfold withLength
  split
  exacts [h, .refused .malformed []]

theorem readStatus_answers : Answers s (readStatus p s) := by
  unfold readStatus
  split <;> simp

theorem readTable_answers : Answers s (readTable p s) := by
  have entry : Answers s (readEntry p s) := by unfold readEntry; dsimp only; split <;> simp
  have envelope : Answers s (readEnvelope p s) := by unfold readEnvelope; dsimp only; split <;> simp
  have span : Answers s (readSpan p s) := by unfold readSpan; dsimp only; split <;> simp
  have marker : Answers s (readMarker p s) := by unfold readMarker; split <;> simp
  have calibration : Answers s (readCalibration p s) := by unfold readCalibration; split <;> simp
  unfold readTable
  split
  · simp
  · split
    exacts [withLength_answers entry, withLength_answers envelope, withLength_answers span, withLength_answers marker,
      withLength_answers calibration, by simp]

theorem stageOpen_answers : Answers s (stageOpen p s) := by
  unfold stageOpen
  repeat' split
  all_goals simp

theorem stagePart_answers : Answers s (stagePart p s) := by
  unfold stagePart
  dsimp only
  repeat' split
  all_goals simp

theorem stageCommit_answers : Answers s (stageCommit p s) := by
  unfold stageCommit
  dsimp only
  repeat' split
  all_goals simp

theorem stageDiscard_answers : Answers s (stageDiscard p s) := by
  unfold stageDiscard
  split <;> simp

theorem configureHead_answers : Answers s (configureHead p s) := by
  unfold configureHead
  dsimp only
  repeat' split
  all_goals simp

theorem setMask_answers : Answers s (setMask p s) := by
  unfold setMask
  dsimp only
  repeat' split
  all_goals simp

theorem setOdometry_answers : Answers s (setOdometry p s) := by
  unfold setOdometry
  dsimp only
  repeat' split
  all_goals simp

theorem setRouteBase_answers : Answers s (setRouteBase p s) := by
  unfold setRouteBase
  dsimp only
  repeat' split
  all_goals simp

theorem writeRouteEntry_answers : Answers s (writeRouteEntry p s) := by
  unfold writeRouteEntry
  dsimp only
  repeat' split
  all_goals simp

theorem clearRouteEntry_answers : Answers s (clearRouteEntry p s) := by
  unfold clearRouteEntry
  dsimp only
  repeat' split
  all_goals simp

theorem eraseEnvelope_answers : Answers s (eraseEnvelope p s) := by
  unfold eraseEnvelope
  dsimp only
  repeat' split
  all_goals simp

theorem mapCells_answers : Answers s (mapCells p s) := by
  unfold mapCells
  dsimp only
  repeat' split
  all_goals simp

theorem unmapCells_answers : Answers s (unmapCells p s) := by
  unfold unmapCells
  dsimp only
  repeat' split
  all_goals simp

theorem addMarker_answers : Answers s (addMarker p s) := by
  unfold addMarker
  dsimp only
  repeat' split
  all_goals simp

theorem removeMarker_answers : Answers s (removeMarker p s) := by
  unfold removeMarker
  dsimp only
  repeat' split
  all_goals simp

theorem setRunParameters_answers : Answers s (setRunParameters p s) := by
  unfold setRunParameters
  dsimp only
  repeat' split
  all_goals simp

theorem arm_answers : Answers s (arm p s) := by
  unfold arm
  repeat' split
  all_goals simp

theorem start_answers : Answers s (start p s) := by
  unfold start
  split <;> simp

theorem stop_answers : Answers s (stop p s) := by
  unfold stop
  split <;> simp

theorem resetRun_answers : Answers s (resetRun p s) := by
  unfold resetRun
  split <;> simp

theorem setLevelFloor_answers : Answers s (setLevelFloor p s) := by
  unfold setLevelFloor
  dsimp only
  split <;> simp

theorem ackFault_answers : Answers s (ackFault p s) := by
  unfold ackFault
  split <;> simp

/-- Every request is refused with nothing changed, or carried out. -/
theorem requestBody_answers (k : Nat) : Answers s (requestBody k p s) := by
  unfold requestBody
  split
  exacts [withLength_answers (answers_accept _), withLength_answers (.done rfl), withLength_answers readStatus_answers,
    readTable_answers, withLength_answers stageOpen_answers, stagePart_answers, withLength_answers stageCommit_answers,
    withLength_answers stageDiscard_answers, withLength_answers configureHead_answers, withLength_answers setMask_answers,
    withLength_answers setOdometry_answers, withLength_answers setRouteBase_answers,
    withLength_answers writeRouteEntry_answers, withLength_answers clearRouteEntry_answers,
    withLength_answers eraseEnvelope_answers, mapCells_answers, withLength_answers unmapCells_answers,
    withLength_answers addMarker_answers, withLength_answers removeMarker_answers,
    withLength_answers setRunParameters_answers, withLength_answers arm_answers, withLength_answers start_answers,
    withLength_answers stop_answers, withLength_answers resetRun_answers, withLength_answers setLevelFloor_answers,
    withLength_answers ackFault_answers, answers_refuse _ _]

end

/-- A command that takes requests of a kind takes those of that code, or those of an undefined one. -/
theorem exec_of_takesKind {c : Instr} {k : Nat} (h : takesKind c k = true) (s : State) :
    exec c s = .next (takeKind k (requestBody k) s)
      ∨ definedKind k = false
        ∧ exec c s = .next (takeRequest (fun k => !definedKind k) (fun _ s => refuse .badKind [] s) s) := by
  cases c with
  | badKind => exact .inr ⟨by simpa [takesKind] using h, rfl⟩
  | identify | setTime | readStatus | readTable | stageOpen | stagePart | stageCommit | stageDiscard | configureHead | setMask
  | setOdometry | setRouteBase | writeRouteEntry | clearRouteEntry | eraseEnvelope | mapCells | unmapCells | addMarker
  | removeMarker | setRunParameters | arm | start | stop | resetRun | setLevelFloor | ackFault =>
    obtain rfl := eq_of_beq h
    exact .inl rfl
  | _ => exact absurd h Bool.false_ne_true

/-- The answer to a request that was not carried out. -/
theorem answered_of_answers {s t : State} {r : Request} {rest : List Request} {status : Status} {u : State × Reply}
    (answers : Answers (beginTaking rest s) u)
    (e : t = answered u.1 r u.1.mgmt.intake u.2.status u.2.payload (u.2.stamp.getD s.run.timebase))
    (shown : t.mgmt.lastTaken = some ⟨r.tag, r.kind, status⟩) (refused : status ≠ .ok) :
    ∃ payload, t = answered s r rest status payload s.run.timebase := by
  have same : u.2.status = status := by
    rw [e] at shown
    exact congrArg LastTaken.status (Option.some.inj shown)
  cases answers with
  | refused status payload => exact ⟨payload, e.trans (by rw [← same]; rfl)⟩
  | done ok => exact absurd (same.symm.trans ok) refused

/-- Settles O47. -/
theorem refusedRequestChangesNothing : Obligations.RefusedRequestChangesNothing := by
  intro c s t r rest status ready takes taken shown refused
  rcases exec_of_takesKind takes s with e | ⟨undefined, e⟩
  · have t_eq := Host.Outcome.next.inj (taken.symm.trans e)
    exact answered_of_answers (requestBody_answers _) (t_eq.trans (takeKind_ready ready rfl)) shown refused
  · have t_eq := Host.Outcome.next.inj (taken.symm.trans e)
    exact answered_of_answers (u := refuse .badKind [] (beginTaking rest s)) (answers_refuse _ _)
      (t_eq.trans (takeRequest_ready ready (by simp [undefined]))) shown refused

/-! ### The first rows of the requests' tables -/

section
variable {s : State} {code n : Nat} {r : Request} {rest : List Request} {body : List Byte → State → State × Reply}

/-- A payload of another length than the kind's is refused as MALFORMED. -/
theorem takeKind_malformed (ready : Ready s r rest) (kind : r.kind.toNat = code) (size : r.payload.length ≠ n) :
    takeKind code (withLength n body) s = answered s r rest .malformed [] s.run.timebase :=
  takeKind_refused ready kind (withLength_ne size)

/-- A payload of the kind's length, refused by the body. -/
theorem takeKind_first_row {status : Status} (ready : Ready s r rest) (kind : r.kind.toNat = code) (size : r.payload.length = n)
    (e : body r.payload (beginTaking rest s) = refuse status [] (beginTaking rest s)) :
    takeKind code (withLength n body) s = answered s r rest status [] s.run.timebase :=
  takeKind_refused ready kind ((withLength_eq size).trans e)

end

section
variable {s : State} {p : List Byte}

theorem configureHead_frozen (h : frozen s.run.runState = true) : configureHead p s = refuse .frozen [] s := if_pos h

theorem setMask_frozen (h : frozen s.run.runState = true) : setMask p s = refuse .frozen [] s := if_pos h

theorem setOdometry_frozen (h : frozen s.run.runState = true) : setOdometry p s = refuse .frozen [] s := if_pos h

theorem eraseEnvelope_frozen (h : frozen s.run.runState = true) : eraseEnvelope p s = refuse .frozen [] s := if_pos h

theorem setRouteBase_state_row (h : s.run.runState ≠ .unarmed) : setRouteBase p s = refuse .state [] s := if_pos h

theorem setRunParameters_state_row (h : s.run.runState ≠ .unarmed) : setRunParameters p s = refuse .state [] s := if_pos h

theorem arm_state_row (h : s.run.runState ≠ .unarmed) : arm p s = refuse .state [] s := if_pos h

theorem start_state_row (h : s.run.runState ≠ .armed) : start p s = refuse .state [] s := if_pos h

theorem stop_state_row (h : s.run.runState ≠ .running) : stop p s = refuse .state [] s := if_pos h

end

theorem frozen_iff (x : RunState) : frozen x = true ↔ x = .armed ∨ x = .running ∨ x = .draining := by
  cases x <;> simp [frozen]

/-- Settles O48. -/
theorem firstRowsRefuse : Obligations.FirstRowsRefuse := by
  intro s r rest c code n ready kind
  have coded (small : code < 256) : r.kind.toNat = code := by rw [kind, BitVec.toNat_ofNat, Nat.mod_eq_of_lt small]
  refine ⟨fun row size => ?_, fun row size state => ?_, fun row size state => ?_, fun row size state => ?_,
    fun row size state => ?_⟩
  · simp only [List.mem_cons, Prod.mk.injEq, List.not_mem_nil, or_false] at row
    rcases row with h | h | h | h | h | h | h | h | h | h | h | h | h | h | h | h | h | h | h | h | h | h | h <;>
      · obtain ⟨rfl, rfl, rfl⟩ := h
        exact congrArg Host.Outcome.next (takeKind_malformed ready (coded (by decide)) size)
  · have held : frozen (beginTaking rest s).run.runState = true := (frozen_iff _).mpr state
    simp only [List.mem_cons, Prod.mk.injEq, List.not_mem_nil, or_false] at row
    rcases row with ⟨rfl, rfl, rfl⟩ | ⟨rfl, rfl, rfl⟩ | ⟨rfl, rfl, rfl⟩ | ⟨rfl, rfl, rfl⟩
    · exact congrArg Host.Outcome.next (takeKind_first_row ready (coded (by decide)) size (configureHead_frozen held))
    · exact congrArg Host.Outcome.next (takeKind_first_row ready (coded (by decide)) size (setMask_frozen held))
    · exact congrArg Host.Outcome.next (takeKind_first_row ready (coded (by decide)) size (setOdometry_frozen held))
    · exact congrArg Host.Outcome.next (takeKind_first_row ready (coded (by decide)) size (eraseEnvelope_frozen held))
  · simp only [List.mem_cons, Prod.mk.injEq, List.not_mem_nil, or_false] at row
    rcases row with ⟨rfl, rfl, rfl⟩ | ⟨rfl, rfl, rfl⟩ | ⟨rfl, rfl, rfl⟩
    · exact congrArg Host.Outcome.next (takeKind_first_row ready (coded (by decide)) size (setRouteBase_state_row state))
    · exact congrArg Host.Outcome.next (takeKind_first_row ready (coded (by decide)) size (setRunParameters_state_row state))
    · exact congrArg Host.Outcome.next (takeKind_first_row ready (coded (by decide)) size (arm_state_row state))
  · simp only [Prod.mk.injEq] at row
    obtain ⟨rfl, rfl, rfl⟩ := row
    exact congrArg Host.Outcome.next (takeKind_first_row ready (coded (by decide)) size (start_state_row state))
  · simp only [Prod.mk.injEq] at row
    obtain ⟨rfl, rfl, rfl⟩ := row
    exact congrArg Host.Outcome.next (takeKind_first_row ready (coded (by decide)) size (stop_state_row state))

end Sys2Proof.Machine

/-! The settings that requests carry, read back from their payloads and installed whole (R6, R35, R36, R59, R81). -/

namespace Sys2Proof.Machine

/-! ### What the payloads carry -/

theorem headOf_headNumber (p : HeadId) : headOf (headNumber p) = some p := by cases p <;> rfl

theorem headNumber_le (p : HeadId) : headNumber p ≤ 2 := by cases p <;> decide

theorem fieldU_leBytes (w n : Nat) : fieldU 0 w (leBytes w n) = n % 256 ^ w := by
  rw [fieldU, List.drop_zero, List.take_of_length_le (length_leBytes w n).le, leNat_leBytes]

/-- A flag's code is one of the two of R196. -/
theorem flagOf_flag (b : Bool) : (flagOf (if b then 1 else 0)).isSome = true := by cases b <;> rfl

theorem flag_beq_one (b : Bool) : ((if b then 1 else 0 : Nat) == 1) = b := by cases b <;> rfl

theorem directionOf_directionCode (d : Direction) : directionOf (directionCode d) = some d := by cases d <;> rfl

theorem directionCode_lt (d : Direction) : directionCode d < 256 := by cases d <;> decide

section
variable {classCode phi timeout : Nat} {enable : Bool} {yh zh : Int}

theorem length_configurePayload (p : HeadId) : (configurePayload p classCode enable yh zh phi timeout).length = 11 := by
  simp [configurePayload]

/-- The seven fields of a CONFIGURE HEAD read back. -/
theorem fields_configurePayload (p : HeadId) (hclass : classCode ≤ 6) (ylo : -20000 ≤ yh) (yhi : yh ≤ 20000)
    (zlo : -20000 ≤ zh) (zhi : zh ≤ 20000) (hphi : phi ≤ 65535) (htimeout : timeout ≤ 500) :
    let payload := configurePayload p classCode enable yh zh phi timeout
    fieldU 0 1 payload = headNumber p ∧ fieldU 1 1 payload = classCode ∧ fieldU 2 1 payload = (if enable then 1 else 0)
      ∧ fieldI 3 2 payload = yh ∧ fieldI 5 2 payload = zh ∧ fieldU 7 2 payload = phi ∧ fieldU 9 2 payload = timeout := by
  have number := headNumber_le p
  simp only [configurePayload, List.append_assoc]
  simp (disch := omega) only [fieldU_front, fieldU_whole, fieldI_front, fieldU_front_encB, fieldU_skip_encU, fieldU_skip_encB,
    fieldU_skip_encI, fieldI_skip_encU, fieldI_skip_encB, fieldI_skip_encI, Nat.reduceSub, and_self]

end

theorem length_odometryPayload (x : OdoSettings) : (odometryPayload x).length = 33 := by simp [odometryPayload]

/-- Settings in range, both scales defined, read back from a SET ODOMETRY. -/
theorem carriedSettings_odometryPayload {x : OdoSettings} (h : settingsInRange x) :
    carriedSettings (odometryPayload x) = x ∧ fieldU 24 1 (odometryPayload x) = if x.recalEnable then 1 else 0 := by
  obtain ⟨a, b, -, interval, -, weight, -, slip, -, loss, -, slew, -, window, reversal, -, baseline, pitch⟩ := h
  unfold scaleInRange at a b
  unfold carriedSettings
  simp only [odometryPayload, List.append_assoc]
  simp (disch := omega) only [fieldU_front, fieldU_whole, fieldU_front_encB, fieldU_skip_encU, fieldU_skip_encB,
    Nat.reduceSub, flag_beq_one, and_self]

theorem length_paramBytes (p : RunParams) : (paramBytes p).length = 31 := by simp [paramBytes]

/-- Parameters in range read back from a SET RUN PARAMETERS. -/
theorem carriedParams_paramBytes {p : RunParams} (h : paramsInRange p) :
    carriedParams (paramBytes p) = p ∧ fieldU 0 1 (paramBytes p) = directionCode p.direction := by
  obtain ⟨originLo, originHi, -, pitch, -, lag, -, timeout, centre, -, guard, -, bogie, -, length, depth, -, hold, high, panic,
    hysteresis, -, head, -, link, -, -⟩ := h
  have direction := directionCode_lt p.direction
  unfold carriedParams
  simp only [paramBytes, List.append_assoc]
  simp (disch := omega) only [fieldU_front, fieldU_whole, fieldI_front, fieldU_skip_encU, fieldU_skip_encI, fieldI_skip_encU,
    Nat.reduceSub, directionOf_directionCode, Option.getD_some, and_self]

/-! ### The requests carried out -/

/-- The port that a CONFIGURE HEAD leaves by the table of R36. -/
theorem movePort_eq (before port : Port) :
    movePort before port.enable port
      = if before.state = .down then port
        else if before.state = .disabled then if port.enable then idlePort .waiting port else port
        else if port.enable = false then { idlePort .disabled port with warn := false, lastStatus := none }
        else if before.state = .streaming then
          if port.classCode = before.classCode then { port with silence := some (1000 * port.silenceTimeout) }
          else idlePort .waiting port
        else port := by
  unfold movePort
  cases before.state <;> cases port.enable <;> simp [startMs]

/-- Nothing is out of range in a CONFIGURE HEAD whose fields are not. -/
theorem badHeadField_configurePayload {classCode phi timeout : Nat} {enable : Bool} {yh zh : Int} (p : HeadId)
    (hclass : classCode ≤ 6) (ylo : -20000 ≤ yh) (yhi : yh ≤ 20000) (zlo : -20000 ≤ zh) (zhi : zh ≤ 20000)
    (hphi : phi ≤ 65535) (tlo : 5 ≤ timeout) (thi : timeout ≤ 500) :
    badHeadField (configurePayload p classCode enable yh zh phi timeout) = none := by
  obtain ⟨number, code, flag, y, z, angle, silence⟩ :=
    fields_configurePayload (enable := enable) p hclass ylo yhi zlo zhi hphi thi
  rw [badHeadField, firstBad_eq_none_iff, number, code, flag, y, z, angle, silence]
  simp only [List.forall_mem_cons, List.not_mem_nil, false_implies, implies_true, inRange_iff, decide_eq_true_eq, and_true]
  exact ⟨headNumber_le p, hclass, flagOf_flag enable, ⟨ylo, yhi⟩, ⟨zlo, zhi⟩, hphi, by omega, by omega⟩

theorem badOdometryField_odometryPayload {x : OdoSettings} (h : settingsInRange x) (a : x.scaleA ≠ 0) (b : x.scaleB ≠ 0) :
    badOdometryField (odometryPayload x) = none := by
  obtain ⟨carried, flag⟩ := carriedSettings_odometryPayload h
  obtain ⟨hA, hB, intervalLo, interval, weightLo, weight, slipLo, slip, lossLo, loss, slewLo, slew, windowLo, window, reversal,
    baselineLo, baseline, pitch⟩ := h
  unfold scaleInRange at hA hB
  rw [badOdometryField, firstBad_eq_none_iff, carried, flag]
  simp only [List.forall_mem_cons, List.not_mem_nil, false_implies, implies_true, inRange_iff, and_true, true_and, Bool.or_eq_true,
    beq_iff_eq, flagOf_flag]
  omega

theorem badParamField_paramBytes {p : RunParams} (h : paramsInRange p) : badParamField (paramBytes p) = none := by
  obtain ⟨carried, code⟩ := carriedParams_paramBytes h
  obtain ⟨originLo, originHi, pitchLo, pitch, lagLo, lag, timeoutLo, timeout, centre, guardLo, guard, bogieLo, bogie, order,
    length, depth, holdLo, hold, high, panic, hysteresis, headLo, head, linkLo, link, -, -⟩ := h
  rw [badParamField, firstBad_eq_none_iff, carried, code]
  simp only [List.forall_mem_cons, List.not_mem_nil, false_implies, implies_true, inRange_iff, and_true, true_and,
    directionOf_directionCode, Option.isSome_some]
  omega

/-- Settles O38. -/
theorem settingsInstalled : Obligations.SettingsInstalled := by
  refine ⟨fun s r rest p classCode enable yh zh phi timeout thawed hclass unused ylo yhi zlo zhi hphi tlo thi h => ?_,
    fun s r rest => ⟨fun p mask thawed h => ?_, fun x thawed range a b h => ?_, fun p unarmed range h => ?_⟩⟩
  · intro before installed idle after
    obtain ⟨number, code, flag, y, z, angle, silence⟩ :=
      fields_configurePayload (enable := enable) p hclass ylo yhi zlo zhi hphi thi
    have used : ¬(classCode = 0 ∧ (if enable then 1 else 0) = 1) := fun ⟨noClass, on⟩ => by simp [unused noClass] at on
    have moved : configurePort (configurePayload p classCode enable yh zh phi timeout) before = after := by
      unfold configurePort
      dsimp only
      rw [code, flag, y, z, angle, silence, flag_beq_one]
      exact movePort_eq before installed
    have set : configureHead (configurePayload p classCode enable yh zh phi timeout) (beginTaking rest s)
        = accept (encU 1 (portStateCode after.state)) ((beginTaking rest s).withPort p after) := by
      rw [configureHead, beginTaking_run, thawed, if_neg Bool.false_ne_true,
        badHeadField_configurePayload p hclass ylo yhi zlo zhi hphi tlo thi]
      dsimp only
      rw [code, flag, if_neg used, number, headOf_headNumber, beginTaking_ports]
      dsimp only
      rw [moved]
    exact congrArg Host.Outcome.next (h.accepts (by decide) (length_configurePayload p) set)
  · have number : fieldU 0 1 (encU 1 (headNumber p) ++ leBytes 8 mask.toNat) = headNumber p :=
      fieldU_front (by have := headNumber_le p; omega)
    have carried : fieldU 1 8 (encU 1 (headNumber p) ++ leBytes 8 mask.toNat) = mask.toNat := by
      rw [fieldU_skip_encU le_rfl, Nat.sub_self, fieldU_leBytes, Nat.mod_eq_of_lt (Nat.lt_of_lt_of_eq mask.isLt (by decide))]
    have set : setMask (encU 1 (headNumber p) ++ leBytes 8 mask.toNat) (beginTaking rest s)
        = accept (leBytes 8 (s.correctors.get p).mask.toNat)
          ((beginTaking rest s).withCorrector p { s.correctors.get p with mask := mask }) := by
      rw [setMask, beginTaking_run, thawed, if_neg Bool.false_ne_true, number, headOf_headNumber]
      dsimp only
      rw [carried, BitVec.ofNat_toNat, BitVec.setWidth_eq, beginTaking_correctors]
    exact congrArg Host.Outcome.next (h.accepts (by decide) (by simp) set)
  · have set : setOdometry (odometryPayload x) (beginTaking rest s)
        = accept [] ((beginTaking rest s).withOdo { s.odo with settings := x, interval := startMs x.interval }) := by
      rw [setOdometry, beginTaking_run, thawed, if_neg Bool.false_ne_true, badOdometryField_odometryPayload range a b]
      dsimp only
      rw [(carriedSettings_odometryPayload range).1, beginTaking_odo]
    exact congrArg Host.Outcome.next (h.accepts (by decide) (length_odometryPayload x) set)
  · have set : setRunParameters (paramBytes p) (beginTaking rest s)
        = accept [] ((beginTaking rest s).withRun { s.run with params := p, paramsSet := true }) := by
      have carried := (carriedParams_paramBytes range).1
      have good := badParamField_paramBytes range
      obtain ⟨-, -, -, -, -, -, -, -, -, -, -, -, -, order, -, -, -, -, -, -, -, -, -, -, -, high, panic⟩ := range
      have ordered : watermarksOrdered p = true := by simp [watermarksOrdered, high, panic]
      rw [setRunParameters, beginTaking_run, if_neg (not_not.mpr unarmed), good]
      dsimp only
      rw [carried, if_neg (Nat.not_lt.mpr order), ordered, if_neg (by decide)]
    exact congrArg Host.Outcome.next (h.accepts (by decide) (length_paramBytes p) set)

end Sys2Proof.Machine

/-! The requests that write the Route Map, carried out (R86, R88, R89, R92 to R99). -/

namespace Sys2Proof.Machine

/-! ### Fields of one width behind one another -/

/-- Unsigned fields of one width read back from where they stand. -/
theorem fieldsU_flatMap {w off : Nat} {l : List Nat} {pre tail : List Byte} (hoff : pre.length = off)
    (h : ∀ x ∈ l, x < 256 ^ w) : fieldsU off w l.length (pre ++ (l.flatMap (encU w) ++ tail)) = l := by
  refine List.ext_getElem (by simp [fieldsU]) fun i _ hi => ?_
  have item := fieldU_flatMap (fun x (_ : x ∈ l) => length_encU w x) hi 0 w tail
  rw [Nat.add_zero, fieldU_front (h _ (List.getElem_mem hi))] at item
  simp only [fieldsU, List.getElem_map, List.getElem_range]
  rw [fieldU_skip pre (by omega), hoff, Nat.add_sub_cancel_left, item]

/-! ### SET ROUTE BASE, WRITE and CLEAR ROUTE ENTRY, ERASE ENVELOPE -/

theorem length_entryPayload (e j : Nat) (radius : Int) (margin : Nat) (zone : Zone) (alert : Bool) :
    (entryPayload e j radius margin zone alert).length = 9 := by
  simp [entryPayload]

theorem zoneOf_zoneCode (z : Zone) : zoneOf (zoneCode z) = some z := by cases z <;> rfl

theorem zoneCode_lt (z : Zone) : zoneCode z < 256 := by cases z <;> decide

/-- The six fields of a WRITE ROUTE ENTRY read back. -/
theorem fields_entryPayload {e j margin : Nat} {radius : Int} (zone : Zone) (alert : Bool) (he : e ≤ 511) (hj : j ≤ 63)
    (hr : radius.natAbs ≤ 20000) (hm : margin ≤ 5000) :
    let payload := entryPayload e j radius margin zone alert
    fieldU 0 2 payload = e ∧ fieldU 2 1 payload = j ∧ fieldI 3 2 payload = radius ∧ fieldU 5 2 payload = margin
      ∧ fieldU 7 1 payload = zoneCode zone ∧ fieldU 8 1 payload = if alert then 1 else 0 := by
  have code := zoneCode_lt zone
  have flag : fieldU 0 1 (encB alert) = if alert then 1 else 0 := by
    have front := fieldU_front_encB (b := alert) (rest := [])
    rwa [List.append_nil] at front
  simp only [entryPayload, List.append_assoc]
  simp (disch := omega) only [fieldU_front, fieldI_front, flag, fieldU_skip_encU, fieldU_skip_encI, fieldI_skip_encU,
    Nat.reduceSub, and_self]

/-- An entry that no cell names, written for a defined envelope (R88). -/
theorem writeRouteEntry_eq {s : State} {e j margin : Nat} {radius : Int} {zone : Zone} {alert : Bool} (he : e ≤ 511)
    (hj : j ≤ 63) (hr : radius = 0 ∨ (20 ≤ radius.natAbs ∧ radius.natAbs ≤ 20000)) (hm : margin ≤ 5000)
    (free : (entryAt s.route e).references = 0) (defined : (envelopeAt s.route j).defined = true) :
    writeRouteEntry (entryPayload e j radius margin zone alert) s
      = accept [] (s.withRoute { s.route with
          entries := tableSet {} s.route.entries e ⟨true, j, radius, margin, zone, alert, 0⟩ }) := by
  obtain ⟨index, envelope, curve, room, code, flag⟩ := fields_entryPayload (radius := radius) zone alert he hj (by omega) hm
  have good : badEntryField (entryPayload e j radius margin zone alert) = none := by
    rw [badEntryField, firstBad_eq_none_iff, index, envelope, curve, room, code, flag]
    simp only [List.forall_mem_cons, List.not_mem_nil, false_implies, implies_true, and_true, decide_eq_true_eq, radiusGood,
      Bool.or_eq_true, beq_iff_eq, inRange_iff, zoneOf_zoneCode, Option.isSome_some, flagOf_flag]
    omega
  rw [writeRouteEntry, good]
  dsimp only
  rw [index, envelope, curve, room, code, flag, free, if_neg (lt_irrefl 0), defined, if_neg (by decide), zoneOf_zoneCode,
    flag_beq_one]
  rfl

/-- An entry that no cell names is cleared; what is undefined stays so (R89). -/
theorem clearRouteEntry_eq {s : State} {e : Nat} (he : e ≤ 511) (free : (entryAt s.route e).references = 0) :
    clearRouteEntry (encU 2 e) s
      = accept [] (if (entryAt s.route e).defined then
          s.withRoute { s.route with entries := tableSet {} s.route.entries e {} } else s) := by
  have index : fieldU 0 2 (encU 2 e) = e := fieldU_whole (by omega)
  unfold clearRouteEntry
  dsimp only
  rw [index, if_neg (Nat.not_lt.mpr he), free, if_neg (lt_irrefl 0)]
  cases (entryAt s.route e).defined <;> rfl

/-- An envelope that no defined entry names is erased; what is undefined stays so (R92). -/
theorem eraseEnvelope_eq {s : State} {j : Nat} (hj : j ≤ 63) (thawed : frozen s.run.runState = false)
    (unnamed : ∀ x ∈ s.route.entries, ¬(x.2.defined = true ∧ x.2.envelope = j)) :
    eraseEnvelope (encU 1 j) s
      = accept [] (if (envelopeAt s.route j).defined then
          s.withRoute { s.route with envelopes := tableSet {} s.route.envelopes j {} } else s) := by
  have index : fieldU 0 1 (encU 1 j) = j := fieldU_whole (by omega)
  have none : namingEntry s.route j = none := by
    simp only [namingEntry, Option.map_eq_none_iff, List.find?_eq_none, Bool.and_eq_true, beq_iff_eq]
    exact unnamed
  unfold eraseEnvelope
  dsimp only
  rw [index, thawed, if_neg Bool.false_ne_true, if_neg (Nat.not_lt.mpr hj), none]
  cases (envelopeAt s.route j).defined <;> rfl

/-- Settles O39. -/
theorem routeTablesWritten : Obligations.RouteTablesWritten := by
  intro s r rest
  refine ⟨fun b unarmed table lo hi h => ⟨rebase b s.route, ?_, rfl, fun _ => rfl, rfl, fun e => ?_, rfl, rfl⟩,
    fun e j radius margin zone alert he hj hr hm free defined h => ?_, fun e he free h => ?_, fun j hj thawed unnamed h => ?_⟩
  · have field : fieldI 0 4 (encI 4 b) = b := fieldI_whole (by omega) (by omega)
    have good : inRange (-2000000000) 2000000000 b = true := inRange_iff.mpr ⟨lo, hi⟩
    have set : setRouteBase (encI 4 b) (beginTaking rest s)
        = accept (encU 2 (mappedCount s.route)) ((beginTaking rest s).withRoute (rebase b s.route)) := by
      unfold setRouteBase
      dsimp only
      rw [field, beginTaking_run, if_neg (not_not.mpr unarmed), good, if_neg (by decide), beginTaking_route]
    exact congrArg Host.Outcome.next (h.accepts (by decide) (length_encI ..) set)
  · exact tableGet_tableMap (f := withoutReferences) table.2.1 rfl
  · exact congrArg Host.Outcome.next (h.accepts (by decide) (length_entryPayload ..)
      (writeRouteEntry_eq (s := beginTaking rest s) he hj hr hm free defined))
  · refine congrArg Host.Outcome.next ((h.accepts (by decide) (length_encU ..)
      (clearRouteEntry_eq (s := beginTaking rest s) he free)).trans ?_)
    rw [beginTaking_route]
    split_ifs <;> rfl
  · refine congrArg Host.Outcome.next ((h.accepts (by decide) (length_encU ..)
      (eraseEnvelope_eq (s := beginTaking rest s) hj thawed unnamed)).trans ?_)
    rw [beginTaking_route]
    split_ifs <;> rfl

/-! ### MAP CELLS and UNMAP CELLS -/

section
variable {rm : RouteMap} {i k : Nat}

/-- A span mapped names the entries of its list, cell by cell. -/
theorem cellAt_mapSpan_of_inside {l : List Nat} (h : k < l.length) : cellAt (mapSpan i l rm) (i + k) = l[k]? := by
  induction l generalizing i k rm with
  | nil => exact absurd h (Nat.not_lt_zero k)
  | cons e rest ih =>
    cases k with
    | zero =>
      rw [mapSpan, cellAt_mapSpan_of_outside (.inl (by omega))]
      exact (tableGet_tableSet_of_ne (by simp)).trans (if_pos rfl)
    | succ k =>
      rw [mapSpan, show i + (k + 1) = i + 1 + k by omega, ih (by simpa using h), List.getElem?_cons_succ]

theorem cellAt_unmapSpan_of_inside {n : Nat} (law : tableLaw rm) (h : k < n) : cellAt (unmapSpan i n rm) (i + k) = none := by
  induction n generalizing i k rm with
  | zero => exact absurd h (Nat.not_lt_zero k)
  | succ n ih =>
    cases k with
    | zero =>
      rw [unmapSpan, cellAt_unmapSpan_of_outside (.inl (by omega))]
      exact cellAt_unmapCell_self law
    | succ k => rw [unmapSpan, show i + (k + 1) = i + 1 + k by omega, ih (unmapCell_table_law law) (by omega)]

/-- A span mapped changes no entry but in its reference count. -/
theorem entry_mapSpan {l : List Nat} (law : tableLaw rm) (cells : i + l.length ≤ 4096) (entries : ∀ e ∈ l, e < 512) (k : Nat) :
    withoutReferences (entryAt (mapSpan i l rm) k) = withoutReferences (entryAt rm k) := by
  induction l generalizing i rm with
  | nil => rfl
  | cons e rest ih =>
    rw [List.length_cons] at cells
    obtain ⟨n, same⟩ := entry_mapCell (i := i) (e := e) law (by omega) k
    rw [mapSpan, ih (mapCell_table_law law (by omega) (entries e (List.mem_cons_self ..))) (by omega)
      fun x hx => entries x (List.mem_cons_of_mem _ hx), same]
    rfl

theorem entry_unmapSpan {n : Nat} (law : tableLaw rm) (k : Nat) :
    withoutReferences (entryAt (unmapSpan i n rm) k) = withoutReferences (entryAt rm k) := by
  induction n generalizing i rm with
  | zero => rfl
  | succ n ih =>
    obtain ⟨m, same⟩ := entry_unmapCell (i := i) law k
    rw [unmapSpan, ih (unmapCell_table_law law), same]
    rfl

end

section
variable {s : State} {first count : Nat}

/-- A span beyond the guard line has no late cell. -/
theorem lateCell_eq_none
    (h : ∀ g, guardLine s = some g → ∀ k < count, cellBeyond s.run.params.direction s.route.base g (first + k) = true) :
    lateCell s first count = none := by
  unfold lateCell
  split
  · rfl
  · rename_i g line
    simp only [Option.map_eq_none_iff, List.find?_eq_none, List.mem_map, List.mem_range]
    rintro i ⟨k, below, rfl⟩
    simp [h g line k below]

theorem length_mapPayload (first : Nat) (indices : List Nat) :
    (mapPayload first indices).length = 3 + 2 * indices.length := by
  simp [mapPayload, length_flatMap_of_forall fun x (_ : x ∈ indices) => length_encU 2 x]
  omega

/-- A span mapped (R93). -/
theorem mapCells_eq {indices : List Nat} (some : 1 ≤ indices.length) (few : indices.length ≤ 64)
    (within : first + indices.length ≤ 4096) (early : lateCell s first indices.length = none)
    (defined : ∀ e ∈ indices, e ≤ 511 ∧ (entryAt s.route e).defined = true) :
    mapCells (mapPayload first indices) s
      = accept (encU 2 (mappedCount (mapSpan first indices s.route))) (s.withRoute (mapSpan first indices s.route)) := by
  have index : fieldU 0 2 (mapPayload first indices) = first := by
    simp only [mapPayload, List.append_assoc]
    simp (disch := omega) only [fieldU_front]
  have number : fieldU 2 1 (mapPayload first indices) = indices.length := by
    simp only [mapPayload, List.append_assoc]
    simp (disch := omega) only [fieldU_front, fieldU_skip_encU, Nat.sub_self]
  have carried : carriedIndices (mapPayload first indices) = indices := by
    have read := fieldsU_flatMap (w := 2) (off := 3) (l := indices) (pre := encU 2 first ++ encU 1 indices.length) (tail := [])
      (by simp) fun e he => by have := (defined e he).1; omega
    rw [List.append_nil] at read
    rw [carriedIndices, number]
    exact read
  have size : ¬((mapPayload first indices).length < 3 ∨ (mapPayload first indices).length ≠ 3 + 2 * indices.length) := by
    rw [length_mapPayload]
    omega
  have good : firstBad [(1, spanGood first indices.length), (2, inRange 1 64 indices.length),
      (3, indices.all fun e => decide (e ≤ 511))] = none := by
    rw [firstBad_eq_none_iff]
    simp only [List.forall_mem_cons, List.not_mem_nil, false_implies, implies_true, and_true, spanGood_iff, inRange_iff,
      List.all_eq_true, decide_eq_true_eq]
    exact ⟨⟨by omega, within⟩, by omega, fun e he => (defined e he).1⟩
  have known : undefinedEntry s.route indices = none := by
    simp only [undefinedEntry, Option.map_eq_none_iff, List.findIdx?_eq_none_iff]
    exact fun e he => by simp [(defined e he).2]
  unfold mapCells
  dsimp only
  rw [index, number, carried, if_neg size, good]
  dsimp only
  rw [early]
  dsimp only
  rw [known]

/-- A span unmapped (R94). -/
theorem unmapCells_eq (some : 1 ≤ count) (few : count ≤ 64) (within : first + count ≤ 4096)
    (early : lateCell s first count = none) :
    unmapCells (encU 2 first ++ encU 1 count) s
      = accept (encU 2 (mappedCount (unmapSpan first count s.route))) (s.withRoute (unmapSpan first count s.route)) := by
  have index : fieldU 0 2 (encU 2 first ++ encU 1 count) = first := fieldU_front (by omega)
  have number : fieldU 2 1 (encU 2 first ++ encU 1 count) = count := by
    simp (disch := omega) only [fieldU_whole, fieldU_skip_encU, Nat.sub_self]
  have good : firstBad [(1, spanGood first count), (2, inRange 1 64 count)] = none := by
    rw [firstBad_eq_none_iff]
    simp only [List.forall_mem_cons, List.not_mem_nil, false_implies, implies_true, and_true, spanGood_iff, inRange_iff]
    omega
  unfold unmapCells
  dsimp only
  rw [index, number, good]
  dsimp only
  rw [early]

end

/-- Settles O41. -/
theorem cellsMapped : Obligations.CellsMapped := by
  intro s r rest first count law some few within beyond
  have early : lateCell s first count = none := lateCell_eq_none beyond
  refine ⟨fun indices size defined h => ?_, fun h => ?_⟩
  · subst size
    obtain ⟨base, envelopes, markers⟩ := mapSpan_sameDirectory first indices s.route
    refine ⟨mapSpan first indices s.route, ?_, fun i => ?_, base, envelopes, markers, fun e => ?_⟩
    · exact congrArg Host.Outcome.next (h.replies (by decide)
        (mapCells_eq (s := beginTaking rest s) some few within early defined))
    · split_ifs with inside
      · obtain ⟨k, rfl⟩ := Nat.exists_eq_add_of_le inside.1
        rw [cellAt_mapSpan_of_inside (by omega), Nat.add_sub_cancel_left]
      · exact cellAt_mapSpan_of_outside (by omega)
    · exact entry_mapSpan law within (fun e he => by have := (defined e he).1; omega) e
  · obtain ⟨base, envelopes, markers⟩ := unmapSpan_sameDirectory first count s.route
    refine ⟨unmapSpan first count s.route, ?_, fun i => ?_, base, envelopes, markers, fun e => entry_unmapSpan law e⟩
    · exact congrArg Host.Outcome.next (h.accepts (by decide) (by simp)
        (unmapCells_eq (s := beginTaking rest s) some few within early))
    · split_ifs with inside
      · obtain ⟨k, rfl⟩ := Nat.exists_eq_add_of_le inside.1
        exact cellAt_unmapSpan_of_inside law (by omega)
      · exact cellAt_unmapSpan_of_outside (by omega)

/-! ### ADD MARKER and REMOVE MARKER -/

section
variable {position : Int} {l : List Marker} {s : State}

/-- A marker is inserted in its place by position. -/
theorem insertMarker_eq (m : Marker) (sorted : l.Pairwise fun m n => m.position + 10000 ≤ n.position)
    (apart : ∀ n ∈ l, n.position ≠ m.position) :
    insertMarker m l = (l.filter fun n => decide (n.position < m.position)) ++ m
      :: l.filter fun n => decide (m.position < n.position) := by
  induction l with
  | nil => rfl
  | cons n rest ih =>
    obtain ⟨above, sorted⟩ := List.pairwise_cons.mp sorted
    have off := apart n (List.mem_cons_self ..)
    unfold insertMarker
    split_ifs with before
    · have later : ∀ x ∈ n :: rest, m.position < x.position :=
        List.forall_mem_cons.mpr ⟨before, fun x hx => by have := above x hx; omega⟩
      rw [List.filter_eq_nil_iff.mpr fun x hx => by simp [(later x hx).le],
        List.filter_eq_self.mpr fun x hx => by simp [later x hx]]
      rfl
    · have behind : n.position < m.position := by omega
      rw [ih sorted fun x hx => apart x (List.mem_cons_of_mem _ hx), List.filter_cons_of_pos (by simp [behind]),
        List.filter_cons_of_neg (by simp [behind.le])]
      rfl

/-- The markers but the one at a position, those below it before those above it. -/
theorem filter_position_eq (sorted : l.Pairwise fun m n => m.position + 10000 ≤ n.position) :
    (l.filter fun n => n.position != position)
      = (l.filter fun n => decide (n.position < position)) ++ l.filter fun n => decide (position < n.position) := by
  induction l with
  | nil => rfl
  | cons n rest ih =>
    obtain ⟨above, sorted⟩ := List.pairwise_cons.mp sorted
    rcases lt_or_ge n.position position with behind | ahead
    · rw [List.filter_cons_of_pos (by simp [behind.ne]), List.filter_cons_of_pos (by simp [behind]),
        List.filter_cons_of_neg (by simp [behind.le]), ih sorted]
      rfl
    · have later : ∀ x ∈ rest, position < x.position := fun x hx => by have := above x hx; omega
      have noneBelow : rest.filter (fun n => decide (n.position < position)) = [] :=
        List.filter_eq_nil_iff.mpr fun x hx => by simp [(later x hx).le]
      rw [List.filter_cons, List.filter_cons_of_neg (by simp [ahead]), List.filter_cons, ih sorted, noneBelow]
      rcases ahead.eq_or_lt with rfl | ahead
      · simp
      · simp [ahead, ahead.ne']

/-- Of markers in rising order the one at a position is found. -/
theorem find?_position_of_mem {m : Marker} (sorted : l.Pairwise fun m n => m.position + 10000 ≤ n.position) (h : m ∈ l) :
    (l.find? fun n => n.position == m.position) = some m := by
  induction l with
  | nil => exact absurd h List.not_mem_nil
  | cons n rest ih =>
    obtain ⟨above, sorted⟩ := List.pairwise_cons.mp sorted
    rcases List.mem_cons.mp h with rfl | h
    · exact List.find?_cons_of_pos (by simp)
    · have apart : n.position ≠ m.position := by have := above m h; omega
      rw [List.find?_cons_of_neg (by simp [apart]), ih sorted h]

/-- Of markers in rising order one stands at a position. -/
theorem length_filter_position {m : Marker} (sorted : l.Pairwise fun m n => m.position + 10000 ≤ n.position) (h : m ∈ l) :
    (l.filter fun n => n.position != m.position).length = l.length - 1 := by
  induction l with
  | nil => exact absurd h List.not_mem_nil
  | cons n rest ih =>
    obtain ⟨above, sorted⟩ := List.pairwise_cons.mp sorted
    rcases List.mem_cons.mp h with rfl | h
    · rw [List.filter_cons_of_neg (by simp), List.filter_eq_self.mpr fun x hx => by have := above x hx; simp; omega]
      rfl
    · have apart : n.position ≠ m.position := by have := above m h; omega
      have some : 0 < rest.length := List.length_pos_of_mem h
      rw [List.filter_cons_of_pos (by simp [apart]), List.length_cons, ih sorted h, List.length_cons]
      omega

theorem lateMarker_eq_none (h : ∀ g, guardLine s = some g → markerBeyond s.run.params.direction g position = true) :
    lateMarker s position = none := by
  unfold lateMarker
  split
  · rfl
  · rename_i g line
    exact if_pos (h g line)

theorem conflictingMarker_eq_none (far : ∀ m ∈ l, 10000 ≤ (m.position - position).natAbs) :
    conflictingMarker position l = none := by
  have near : l.filter (fun m => decide ((m.position - position).natAbs < markerSpacing)) = [] :=
    List.filter_eq_nil_iff.mpr fun m hm => by simp [markerSpacing, Nat.not_lt.mpr (far m hm)]
  rw [conflictingMarker, near]
  rfl

theorem markerPlace_eq (position : Int) (l : List Marker) :
    markerPlace position l = (l.filter fun m => decide (m.position < position)).length := List.countP_eq_length_filter ..

/-- A marker far from every other joins an unfilled list (R98). -/
theorem addMarker_eq {label : Nat} (lo : -2147483648 ≤ position) (hi : position ≤ 2147483647) (small : label ≤ 65535)
    (early : lateMarker s position = none) (room : s.route.markers.length < 256)
    (sorted : s.route.markers.Pairwise fun m n => m.position + 10000 ≤ n.position)
    (far : ∀ m ∈ s.route.markers, 10000 ≤ (m.position - position).natAbs) :
    addMarker (encI 4 position ++ encU 4 label) s
      = accept (encU 2 (s.route.markers.filter fun m => decide (m.position < position)).length
          ++ encU 2 (s.route.markers.length + 1))
        (s.withRoute { s.route with
          markers := (s.route.markers.filter fun m => decide (m.position < position)) ++ ⟨position, label, .unseen⟩
            :: s.route.markers.filter fun m => decide (position < m.position) }) := by
  have place : fieldI 0 4 (encI 4 position ++ encU 4 label) = position := fieldI_front (by omega) (by omega)
  have name : fieldU 4 4 (encI 4 position ++ encU 4 label) = label := by
    simp (disch := omega) only [fieldU_whole, fieldU_skip_encI, Nat.sub_self]
  have apart : ∀ m ∈ s.route.markers, m.position ≠ position := fun m hm => by have := far m hm; omega
  unfold addMarker
  dsimp only
  rw [place, name, if_neg (Nat.not_lt.mpr small), early]
  dsimp only
  rw [if_neg (show ¬markerCapacity ≤ s.route.markers.length from Nat.not_le.mpr room), conflictingMarker_eq_none far]
  dsimp only
  rw [length_insertMarker, markerPlace_eq, insertMarker_eq _ sorted apart]

/-- The removal of a marker that is not in the list (R99). -/
theorem removeMarker_of_absent (lo : -2147483648 ≤ position) (hi : position ≤ 2147483647)
    (early : lateMarker s position = none) (absent : ∀ m ∈ s.route.markers, m.position ≠ position) :
    removeMarker (encI 4 position) s = accept (0 :: encU 2 s.route.markers.length) s := by
  have place : fieldI 0 4 (encI 4 position) = position := fieldI_whole (by omega) (by omega)
  have unfound : (s.route.markers.find? fun m => m.position == position) = none :=
    List.find?_eq_none.mpr fun m hm => by simp [absent m hm]
  unfold removeMarker
  dsimp only
  rw [place, early]
  dsimp only
  rw [unfound]
  rfl

/-- The removal of a marker of the list (R99). -/
theorem removeMarker_of_mem {m : Marker} (lo : -2147483648 ≤ m.position) (hi : m.position ≤ 2147483647)
    (early : lateMarker s m.position = none) (listed : m ∈ s.route.markers)
    (sorted : s.route.markers.Pairwise fun m n => m.position + 10000 ≤ n.position) :
    removeMarker (encI 4 m.position) s
      = accept (1 :: (encU 2 m.label ++ encU 1 (markerStatusCode m.status) ++ encU 2 (s.route.markers.length - 1)))
        (s.withRoute { s.route with
          markers := (s.route.markers.filter fun n => decide (n.position < m.position))
            ++ s.route.markers.filter fun n => decide (m.position < n.position) }) := by
  have place : fieldI 0 4 (encI 4 m.position) = m.position := fieldI_whole (by omega) (by omega)
  have found : (s.route.markers.find? fun n => n.position == m.position) = some m :=
    find?_position_of_mem sorted listed
  have fewer : (s.route.markers.filter fun n => n.position != m.position).length = s.route.markers.length - 1 :=
    length_filter_position sorted listed
  unfold removeMarker
  dsimp only
  rw [place, early]
  dsimp only
  rw [found]
  dsimp only
  rw [fewer, filter_position_eq sorted]
  rfl

end

/-- Settles O42. -/
theorem markersAddedAndRemoved : Obligations.MarkersAddedAndRemoved := by
  intro s r rest position law lo hi beyond below above
  obtain ⟨-, sorted⟩ := law
  have early : lateMarker s position = none := lateMarker_eq_none beyond
  refine ⟨fun label small room far h => ?_, fun h => ⟨fun absent => ?_, fun m listed at_ => ?_⟩⟩
  · exact congrArg Host.Outcome.next (h.accepts (by decide) (by simp)
      (addMarker_eq (s := beginTaking rest s) lo hi small early room sorted far))
  · exact congrArg Host.Outcome.next (h.accepts (by decide) (length_encI ..)
      (removeMarker_of_absent (s := beginTaking rest s) lo hi early absent))
  · subst at_
    exact congrArg Host.Outcome.next (h.accepts (by decide) (length_encI ..)
      (removeMarker_of_mem (s := beginTaking rest s) lo hi early listed sorted))

end Sys2Proof.Machine

/-! The run requests carried out: ARM and START (R8 to R10), STOP (R11, R12, R122, R192) and RESET RUN (R15, R162). -/

namespace Sys2Proof.Machine

/-! ### ARM and START -/

section
variable {s : State}

/-- The five checks of R8 met. -/
theorem armCheck_eq_none (some : ∃ p, (s.ports.get p).enable = true)
    (calibrated : ∀ p, (s.ports.get p).enable = true → (s.correctors.get p).calibration.defined = true)
    (a : s.odo.settings.scaleA ≠ 0) (b : s.odo.settings.scaleB ≠ 0) (params : s.run.paramsSet = true)
    (mapped : s.route.cells ≠ []) : armCheck s = none := by
  have enabled : s.ports.toList.any Port.enable = true := by
    obtain ⟨p, on⟩ := some
    refine List.any_eq_true.mpr ⟨s.ports.get p, ?_, on⟩
    cases p <;> simp [PerHead.toList, PerHead.get]
  have ready : uncalibratedPort s = none := by
    simp only [uncalibratedPort, List.find?_eq_none, Bool.and_eq_true, Bool.not_eq_true', not_and, Bool.not_eq_false]
    exact fun p _ => calibrated p
  have cells : mappedCount s.route ≠ 0 := fun zero => mapped (List.length_eq_zero_iff.mp zero)
  rw [armCheck, enabled, if_neg (by decide), ready]
  dsimp only
  rw [if_neg (not_or.mpr ⟨a, b⟩), params, if_neg (by decide), if_neg cells]

theorem withFaults_timers {x y : Option Nat} (head : s.faults.headLoss = x) (link : s.faults.linkLoss = y) :
    s.withFaults { s.faults with headLoss := x, linkLoss := y } = s := by
  subst head link
  rfl

/-- The loss timers that START starts (R10), both being stopped. -/
theorem startLossTimers_eq (running : s.run.runState = .running) (head : s.faults.headLoss = none)
    (link : s.faults.linkLoss = none) :
    startLinkLossIfDown (startHeadLoss s)
      = s.withFaults
        { s.faults with
          headLoss :=
            if (s.ports.h0.state = .streaming ∨ s.ports.h1.state = .streaming) ∨ s.ports.h2.state = .streaming then none
            else some (1000 * s.run.params.headLossLimit)
          linkLoss := if s.queue.linkUp then none else some (1000 * s.run.params.linkLossLimit) } := by
  have streams : ((s.ports.h0.state = .streaming ∨ s.ports.h1.state = .streaming) ∨ s.ports.h2.state = .streaming)
      ↔ anyStreaming s.ports = true := by
    simp [anyStreaming, PerHead.toList, or_assoc]
  have started : startHeadLoss s = s.withFaults { s.faults with
      headLoss := if anyStreaming s.ports = true then none else some (1000 * s.run.params.headLossLimit)
      linkLoss := none } := by
    rw [startHeadLoss, head]
    cases anyStreaming s.ports with
    | true => exact (withFaults_timers head link).symm
    | false =>
      show s.withFaults { s.faults with headLoss := startMs s.run.params.headLossLimit } = _
      dsimp only
      rw [link]
      rfl
  rw [started]
  simp only [streams]
  unfold startLinkLossIfDown startLinkLoss
  rw [State.withFaults_queue, State.withFaults_run, running]
  cases s.queue.linkUp <;> rfl

end

/-- Settles O43. -/
theorem armAndStart : Obligations.ArmAndStart := by
  intro s r rest
  refine ⟨fun unarmed some calibrated a b params mapped h => ?_, fun armed head link h => ?_⟩
  · have set : arm [] (beginTaking rest s) = accept [] (prepareRun (beginTaking rest s)) := by
      rw [arm, beginTaking_run, if_neg (not_not.mpr unarmed),
        armCheck_eq_none (s := beginTaking rest s) some calibrated a b params mapped]
    exact congrArg Host.Outcome.next (h.accepts (by decide) rfl set)
  · have set : start [] (beginTaking rest s)
        = accept [] (startLinkLossIfDown (startHeadLoss ((beginTaking rest s).withRun
          { s.run with runState := .running, startTime := some s.run.timebase }))) := by
      rw [start, beginTaking_run, if_neg (not_not.mpr armed)]
    rw [startLossTimers_eq (s := (beginTaking rest s).withRun
      { s.run with runState := .running, startTime := some s.run.timebase }) rfl head link] at set
    exact congrArg Host.Outcome.next (h.accepts (by decide) rfl set)

/-! ### STOP -/

/-- The state in which the closures of STOP begin: DRAINING, the head-loss timer stopped, the request taken. -/
def drainBegun (rest : List Request) (s : State) : State :=
  { s with
    run := { s.run with runState := .draining }
    faults := { s.faults with headLoss := none }
    queue := { s.queue with responseClaim := 1040 }
    mgmt := { s.mgmt with intake := rest } }

theorem drainBegun_frame (rest : List Request) (s : State) : Frame [.run, .queue, .mgmt, .faults] s (drainBegun rest s) :=
  ⟨rfl, fun b outside => by
    cases b with
    | run | queue | mgmt | faults => simp at outside
    | _ => rfl⟩

/-- The effect of STOP (R11, R192) in the words of `closures` and `haltedBy`. -/
theorem drain_eq (rest : List Request) (s : State) {d : State × Bool}
    (closing : closures (fun _ => some .drained) s.assembler.contexts (drainBegun rest s) = d) :
    drain (beginTaking rest s)
      = if d.2 then haltedBy .intrusionLost (offerRunEnd (runEndNow .stopped none d.1) d.1)
        else offerRunEnd (runEndNow .stopped none d.1) d.1 := by
  have closed : ClosedOut s.assembler.contexts (drainBegun rest s) d := closing ▸ closures_closedOut _ _ _
  have survey : inSurvey (offerRunEnd (runEndNow .stopped none d.1) d.1).run.runState = true := by
    rw [offerRunEnd_run, closed.run]
    rfl
  have drained : closeEvery .drained (drainBegun rest s) = d := (closures_eq_closeAll ..).symm.trans closing
  show decideHalt (offerRunEnd (buildRunEnd .stopped none (closeEvery .drained (drainBegun rest s)).1)
    (closeEvery .drained (drainBegun rest s)).1, (closeEvery .drained (drainBegun rest s)).2) = _
  rw [drained]
  exact decideHalt_eq_afterClosures (offerRunEnd (runEndNow .stopped none d.1) d.1, d.2) survey

theorem ClosedOut.none_left {s : State} {r : State × Bool} (h : ClosedOut s.assembler.contexts s r) :
    r.1.assembler.contexts = [] := by
  rw [h.contexts, List.filter_eq_nil_iff]
  intro c hc
  simp only [decide_eq_true_eq, not_forall]
  exact ⟨c, hc, by simp⟩

/-- A RUN_END record changes nothing in what a later one of the same state says of the run. -/
theorem runEndNow_offerRunEnd (reason : EndReason) (fault : Option EventKind) (e : RunEndRecord) (s : State) :
    runEndNow reason fault (offerRunEnd e s) = runEndNow reason fault s := by
  unfold runEndNow
  rw [offerRunEnd_run, offerRunEnd_assembler, offerRunEnd_odo]

section
variable {rest : List Request} {s u : State} {d : State × Bool} {e : RunEndRecord}

/-- After the drain the run goes on, or it is halted for an INTRUSION record lost in it. -/
theorem drained_cases (effect : u = if d.2 then haltedBy .intrusionLost (offerRunEnd e d.1) else offerRunEnd e d.1) :
    (d.2 = false ∧ u = offerRunEnd e d.1)
      ∨ d.2 = true ∧ u = haltedBy .intrusionLost (offerRunEnd e d.1)
        ∧ HaltedOut .intrusionLost (offerRunEnd e d.1) (haltedBy .intrusionLost (offerRunEnd e d.1)) := by
  cases lost : d.2 with
  | false => exact .inl ⟨rfl, effect.trans (by rw [lost]; rfl)⟩
  | true => exact .inr ⟨rfl, effect.trans (by rw [lost]; rfl), haltedBy_haltedOut _ _⟩

/-- The drain leaves the blocks apart that closures and a halt do not touch. -/
theorem drained_frame (closed : ClosedOut s.assembler.contexts (drainBegun rest s) d)
    (effect : u = if d.2 then haltedBy .intrusionLost (offerRunEnd e d.1) else offerRunEnd e d.1) :
    Frame [.run, .odo, .assembler, .comparator, .queue, .faults] (drainBegun rest s) u := by
  have offered : Frame [.run, .odo, .assembler, .comparator, .queue, .faults] (drainBegun rest s) (offerRunEnd e d.1) :=
    (closed.frame.mono (by decide)).trans ((offerRunEnd_frame e d.1).mono (by decide))
  rcases drained_cases effect with ⟨-, rfl⟩ | ⟨-, rfl, halted⟩
  exacts [offered, offered.trans halted.frame]

/-- The set, the counters and the RUN_END record of the drain, whether or not the run is halted behind it. -/
theorem drained_set (closed : ClosedOut s.assembler.contexts (drainBegun rest s) d)
    (effect : u = if d.2 then haltedBy .intrusionLost (offerRunEnd e d.1) else offerRunEnd e d.1) :
    u.assembler.contexts = [] ∧ u.faults.headLoss = none ∧ recorded (.runEnd e) u.queue
      ∧ u.assembler.closedLine = d.1.assembler.closedLine ∧ u.assembler.sequence = d.1.assembler.sequence
      ∧ u.comparator.assessed = d.1.comparator.assessed
      ∧ u.run.counters.profilesClosed = d.1.run.counters.profilesClosed := by
  have noneOpen : (offerRunEnd e d.1).assembler.contexts = [] := by
    rw [offerRunEnd_assembler]
    exact closed.none_left (s := drainBegun rest s)
  rcases drained_cases effect with ⟨-, rfl⟩ | ⟨-, rfl, halted⟩
  · exact ⟨noneOpen, by rw [offerRunEnd_faults, closed.headLoss]; rfl, offerRunEnd_recorded e _, by simp⟩
  · have line := halted.closedLine noneOpen
    have sequence := halted.sequence
    have assessed := halted.assessed
    have profiles := halted.profilesClosed
    rw [noneOpen] at sequence assessed profiles
    refine ⟨halted.contexts, halted.headLoss, halted.records _ (offerRunEnd_recorded e _), ?_, ?_, ?_, ?_⟩
    · rw [line, offerRunEnd_assembler]
    · rw [sequence, offerRunEnd_assembler]
      rfl
    · rw [assessed, offerRunEnd_comparator]
      rfl
    · rw [profiles, offerRunEnd_run]
      rfl

end

/-- With no context open and room for it beside the claim, STOP adds its RUN_END record alone. -/
theorem drain_of_empty {rest : List Request} {s : State} (noContext : s.assembler.contexts = []) (empty : s.queue.holder = [])
    (room : occupancy s.queue + 1104 ≤ 65536) :
    drain (beginTaking rest s)
      = (drainBegun rest s).withQueue
        (joinControl (.runEnd (runEndNow .stopped none (drainBegun rest s))) (drainBegun rest s).queue) := by
  have nothing : closures (fun _ => some .drained) s.assembler.contexts (drainBegun rest s) = (drainBegun rest s, false) := by
    rw [noContext]
    rfl
  have fits : fitsControl (drainBegun rest s).queue
      (recordSize (.runEnd (runEndNow .stopped none (drainBegun rest s)))) = true := by
    rw [fitsControl_iff]
    have unclaimed : holderClaim (drainBegun rest s).queue = 0 := by
      show totalSize s.queue.holder = 0
      rw [empty, totalSize_nil]
    have size : recordSize (.runEnd (runEndNow .stopped none (drainBegun rest s))) = 64 := rfl
    have claim : (drainBegun rest s).queue.responseClaim = 1040 := rfl
    have held : occupancy (drainBegun rest s).queue = occupancy s.queue := rfl
    omega
  rw [drain_eq rest s nothing, if_neg Bool.false_ne_true]
  exact offerRunEnd_of_fits empty fits

/-- Settles O44: the closures of the drain, the RUN_END record behind them, and the halt where an INTRUSION record was lost. -/
theorem stopDrains : Obligations.StopDrains := by
  intro s r rest running h
  have stops : stop [] (beginTaking rest s) = accept [] (drain (beginTaking rest s)) := if_neg (not_not.mpr running)
  refine ⟨?_, fun noContext empty room => ?_⟩
  · intro begun d e u
    have closed : ClosedOut s.assembler.contexts (drainBegun rest s) d := closures_closedOut _ _ _
    have effect : u = if d.2 then haltedBy .intrusionLost (offerRunEnd e d.1) else offerRunEnd e d.1 := rfl
    have drained : drain (beginTaking rest s) = u := drain_eq rest s rfl
    have frame := drained_frame closed effect
    have mgmt : u.mgmt = { s.mgmt with intake := rest } := frame.2 .mgmt (by decide)
    obtain ⟨contexts, headLoss, record, line, sequence, assessed, profiles⟩ := drained_set closed effect
    obtain ⟨reason, -, number, time, ending, finalC, finalH, counts⟩ := closed.runEnd .stopped none
    have dropped : (offerRunEnd e d.1).run.counters.intrusionsDropped = d.1.run.counters.intrusionsDropped := by
      rw [offerRunEnd_run]
    clear_value u
    refine ⟨?answer, ?frame, mgmt, contexts, headLoss, ⟨reason, number, ending, time, finalC, finalH, record⟩,
      fun last hlast => ?counts, fun goes => ?goes, fun lost => ?lost⟩
    case answer =>
      rw [drained] at stops
      have taken := h.accepts (n := 0) (by decide) rfl stops
      rw [mgmt] at taken
      exact congrArg Host.Outcome.next taken
    case frame => exact ((drainBegun_frame rest s).mono (by decide)).trans (frame.mono (by decide))
    case counts =>
      have closes : s.assembler.contexts ≠ [] := fun none => by simp [none] at hlast
      have some : 0 < s.assembler.contexts.length := List.length_pos_of_ne_nil closes
      have front := closed.closedLine
      rw [hlast] at front
      obtain ⟨ended, lastSequence⟩ := counts closes
      refine ⟨line.trans front, ?_, ?_, ?_, profiles.symm, lastSequence⟩
      · rw [sequence, closed.sequence, iterate_nextSequence some]
        rfl
      · rw [assessed, closed.assessed, iterate_inc32 some]
        rfl
      · rw [profiles, closed.profilesClosed, iterate_inc32 some]
        rfl
    case goes =>
      rcases drained_cases effect with ⟨-, rfl⟩ | ⟨lost, -⟩
      · have none := closed.noneLost goes
        refine ⟨?_, ?_, ?_, ?_, ?_⟩
        · rw [offerRunEnd_run, closed.run]
          rfl
        · rw [offerRunEnd_odo, closed.odo]
          rfl
        · rw [offerRunEnd_faults, closed.linkLoss]
          rfl
        · rw [offerRunEnd_faults, none.hard]
          rfl
        · rw [dropped, none.intrusionsDropped]
          rfl
      · rw [goes] at lost
        exact absurd lost Bool.false_ne_true
    case lost =>
      rcases drained_cases effect with ⟨goes, -⟩ | ⟨-, rfl, halted⟩
      · rw [lost] at goes
        exact absurd goes Bool.true_eq_false.mp
      · have locked : (offerRunEnd e d.1).faults.hard.lock = true := by
          rw [offerRunEnd_faults]
          exact closed.locked lost
        have noneOpen : (offerRunEnd e d.1).assembler.contexts = [] := by
          rw [offerRunEnd_assembler]
          exact closed.none_left (s := drainBegun rest s)
        have runEnd := halted.runEnd
        rw [noneOpen] at runEnd
        refine ⟨?_, ?_, halted.linkLoss, halted.slot.2 locked, fun low => ?_,
          runEndNow .halted (some .intrusionLost) (offerRunEnd e d.1), rfl, rfl, ?_, ?_, runEnd⟩
        · rw [halted.run]
        · rw [halted.odo, offerRunEnd_odo, closed.odo]
          rfl
        · obtain ⟨-, bound⟩ := closed.rising low.le
          have further := halted.rising (dropped ▸ bound)
          rw [dropped] at further
          exact (closed.lost lost low).trans_le further
        · rw [runEndNow_offerRunEnd]
          rfl
        · rw [runEndNow_offerRunEnd]
          rfl
  · rw [drain_of_empty noContext empty room] at stops
    exact congrArg Host.Outcome.next (h.accepts (by decide) rfl stops)

/-! ### RESET RUN -/

/-- What RESET RUN makes of the queue (R162). -/
theorem resetQueue_spec (q : Outbound) :
    (resetQueue q).data = (if q.sending = some .data then q.data.take 1 else [])
      ∧ (resetQueue q).level = q.floor ∧ (resetQueue q).floor = q.floor ∧ (resetQueue q).sending = q.sending
      ∧ (resetQueue q).linkUp = q.linkUp ∧ (resetQueue q).keep = q.keep
      ∧ (resetQueue q).counters
        = { q.counters with
          dataDiscarded :=
            min 4294967295
              (q.counters.dataDiscarded + (q.data.length - if q.sending = some .data then min 1 q.data.length else 0)) }
      ∧ (resetQueue q).control ++ (resetQueue q).holder = q.control ++ q.holder := by
  have kept : (if q.sending = some .data then q.data.take 1 else []).length
      = if q.sending = some .data then min 1 q.data.length else 0 := by
    split_ifs <;> simp
  unfold resetQueue
  dsimp only
  rw [kept]
  obtain ⟨n, served, -⟩ := serveHolder_spec
    { q with
      data := if q.sending = some .data then q.data.take 1 else []
      level := q.floor
      counters := { q.counters with
        dataDiscarded := satAdd count32 q.counters.dataDiscarded
          (q.data.length - if q.sending = some .data then min 1 q.data.length else 0) } }
  rw [served]
  exact ⟨rfl, rfl, rfl, rfl, rfl, rfl, rfl, by simp⟩

theorem resetOdometry_eq (s : State) :
    resetOdometry s
      = if s.run.runState = .armed ∨ s.run.runState = .running ∨ s.run.runState = .draining then
          { s.odo with h := s.odo.c, r := 0, reversed := false }
        else s.odo := by
  simp only [resetOdometry, frozen_iff]
  rfl

/-- The effect of RESET RUN (R15) block by block. -/
theorem resetRunEffect_eq (s : State) :
    resetRunEffect s
      = { s with
          run := { s.run with runState := .unarmed }
          assembler := { s.assembler with contexts := [] }
          comparator := { s.comparator with alertLine := false, hold := none, lastAlert := none }
          odo := resetOdometry s
          faults := { s.faults with headLoss := none, linkLoss := none }
          queue := resetQueue s.queue } := rfl

/-- Settles O45. -/
theorem resetRunReleases : Obligations.ResetRunReleases := by
  intro s r rest h
  refine ⟨fun unarmed => ?_, fun set => ?_⟩
  · have nothing : resetRun [] (beginTaking rest s) = accept [] (beginTaking rest s) := if_pos unarmed
    exact congrArg Host.Outcome.next (h.accepts (by decide) rfl nothing)
  · have reset : resetRun [] (beginTaking rest s) = accept [] (resetRunEffect (beginTaking rest s)) := if_neg set
    have queue := resetQueue_spec (beginTaking rest s).queue
    rw [resetRunEffect_eq] at reset
    refine ⟨resetQueue (beginTaking rest s).queue, ?_, queue⟩
    rw [← resetOdometry_eq s]
    generalize resetQueue (beginTaking rest s).queue = q at reset ⊢
    exact congrArg Host.Outcome.next (h.accepts (by decide) rfl reset)

end Sys2Proof.Machine

/-! The staging record's requests carried out (R172 to R177). -/

namespace Sys2Proof.Machine

/-! ### What the payloads carry -/

theorem fieldI_of_fieldU {off off' w : Nat} {p p' : List Byte} (h : fieldU off w p = fieldU off' w p') :
    fieldI off w p = fieldI off' w p' := by
  unfold fieldI
  rw [h]

/-- Signed fields of one width read back from where they stand. -/
theorem fieldsI_flatMap {w off : Nat} {l : List Int} {pre tail : List Byte} (hoff : pre.length = off)
    (h : ∀ x ∈ l, -(256 ^ w / 2 : Int) ≤ x ∧ x < 256 ^ w / 2) :
    fieldsI off w l.length (pre ++ (l.flatMap (encI w) ++ tail)) = l := by
  refine List.ext_getElem (by simp [fieldsI]) fun i _ hi => ?_
  obtain ⟨lo, hi'⟩ := h _ (List.getElem_mem hi)
  have item := fieldU_flatMap (fun x (_ : x ∈ l) => length_encI w x) hi 0 w tail
  have placed : fieldU (off + w * i) w (pre ++ (l.flatMap (encI w) ++ tail))
      = fieldU 0 w (encI w l[i] ++ ((l.drop (i + 1)).flatMap (encI w) ++ tail)) := by
    rw [fieldU_skip pre (by omega), hoff, Nat.add_sub_cancel_left, ← item, Nat.add_zero]
  simp only [fieldsI, List.getElem_map, List.getElem_range]
  rw [fieldI_of_fieldU placed, fieldI_front lo hi']

section
variable {k centre floor : Nat} {limits : List Nat} {knots : List Int}

/-- A part of an envelope as it is sent (R198). -/
def limitsPayload (k centre : Nat) (limits : List Nat) : List Byte :=
  encU 1 k ++ (if k = 0 then encU 2 centre else []) ++ limits.flatMap (encU 4)

theorem length_limitsPayload (j : Nat) (size : limits.length = 32) :
    (limitsPayload k centre limits).length = partLength (.envelope j) k := by
  have items : (limits.flatMap (encU 4)).length = 128 := by
    rw [length_flatMap_of_forall fun x (_ : x ∈ limits) => length_encU 4 x, size]
  unfold limitsPayload partLength
  split_ifs <;> simp [items]

theorem fieldU_limitsPayload (below : k ≤ 3) : fieldU 0 1 (limitsPayload k centre limits) = k := by
  rw [limitsPayload, List.append_assoc]
  exact fieldU_front (by omega)

/-- The content of a part of an envelope reads back. -/
theorem partContent_limitsPayload (j : Nat) (hcentre : centre ≤ 65535) (size : limits.length = 32)
    (range : ∀ l ∈ limits, l ≤ 4294967295) :
    partContent (.envelope j) k (limitsPayload k centre limits)
      = .limits (if k = 0 then some centre else none) limits := by
  have small : ∀ l ∈ limits, l < 256 ^ 4 := fun l hl => by have := range l hl; omega
  unfold partContent limitsPayload
  dsimp only
  split_ifs with front
  · subst front
    have field : fieldU 1 2 (encU 1 0 ++ encU 2 centre ++ limits.flatMap (encU 4)) = centre := by
      rw [List.append_assoc]
      simp (disch := omega) only [fieldU_front, fieldU_skip_encU, Nat.sub_self]
    have fields := fieldsU_flatMap (off := 3) (pre := encU 1 0 ++ encU 2 centre) (tail := []) (by simp) small
    rw [size, List.append_nil] at fields
    rw [field, fields]
  · have fields := fieldsU_flatMap (off := 1) (pre := encU 1 k) (tail := []) (by simp) small
    rw [size, List.append_nil] at fields
    rw [List.append_nil, fields]

/-- A calibration part as it is sent (R198). -/
def knotsPayload (knots : List Int) (floor : Nat) : List Byte := encU 1 0 ++ knots.flatMap (encI 2) ++ encU 1 floor

theorem length_knots (size : knots.length = 17) : (knots.flatMap (encI 2)).length = 34 := by
  rw [length_flatMap_of_forall fun x (_ : x ∈ knots) => length_encI 2 x, size]

theorem length_knotsPayload (h : HeadId) (size : knots.length = 17) :
    (knotsPayload knots floor).length = partLength (.calibration h) 0 := by
  simp [knotsPayload, length_knots size, partLength]

theorem fieldU_knotsPayload : fieldU 0 1 (knotsPayload knots floor) = 0 := by
  rw [knotsPayload, List.append_assoc]
  exact fieldU_front (by decide)

/-- The content of a calibration part reads back. -/
theorem partContent_knotsPayload (h : HeadId) (size : knots.length = 17) (range : ∀ o ∈ knots, -32768 ≤ o ∧ o ≤ 32767)
    (hfloor : floor ≤ 255) :
    partContent (.calibration h) 0 (knotsPayload knots floor) = .knots knots floor := by
  have last : fieldU 35 1 (encU 1 0 ++ (knots.flatMap (encI 2) ++ encU 1 floor)) = floor := by
    rw [fieldU_skip_encU (by decide), fieldU_skip _ (by rw [length_knots size]), length_knots size]
    exact fieldU_whole (by omega)
  have fields := fieldsI_flatMap (off := 1) (pre := encU 1 0) (tail := encU 1 floor) (w := 2) (l := knots) (by simp)
    fun o ho => by have := range o ho; omega
  rw [size] at fields
  unfold partContent knotsPayload
  dsimp only
  rw [List.append_assoc, last, fields]

end

/-! ### The requests carried out -/

section
variable {s : State}

theorem stageOpen_eq {kind id : Nat} {t : StagingTarget} (hkind : kind ≤ 255) (hid : id ≤ 255)
    (target : targetOf kind id = .inl t) (closed : s.mgmt.staging = none) (thawed : frozen s.run.runState = false) :
    stageOpen (encU 1 kind ++ encU 1 id) s
      = accept (encU 1 (partCount t)) (s.withMgmt { s.mgmt with staging := some { target := t } }) := by
  have first : fieldU 0 1 (encU 1 kind ++ encU 1 id) = kind := fieldU_front (by omega)
  have second : fieldU 1 1 (encU 1 kind ++ encU 1 id) = id := by
    simp (disch := omega) only [fieldU_whole, fieldU_skip_encU, Nat.sub_self]
  rw [stageOpen, first, second, target]
  dsimp only
  rw [closed]
  dsimp only
  rw [thawed, if_neg Bool.false_ne_true]

/-- A part of the right length fills its place (R175). -/
theorem stagePart_eq {payload : List Byte} {st : Staging} {k : Nat} (staged : s.mgmt.staging = some st)
    (index : fieldU 0 1 payload = k) (below : k < partCount st.target) (size : payload.length = partLength st.target k) :
    stagePart payload s
      = accept (encU 1 (filledBits { st with parts := insertPart k (partContent st.target k payload) st.parts }))
        (s.withMgmt { s.mgmt with
          staging := some { st with parts := insertPart k (partContent st.target k payload) st.parts } }) := by
  have some : payload.isEmpty = false := by
    cases payload with
    | nil =>
      unfold partLength at size
      split at size
      · split_ifs at size
      · cases size
    | cons => rfl
  rw [stagePart, some, if_neg Bool.false_ne_true, staged]
  dsimp only
  rw [index, if_neg (Nat.not_le.mpr below), if_neg (not_not.mpr size)]

/-- A complete staging record in range is installed (R176). -/
theorem stageCommit_eq {payload : List Byte} {st : Staging} (staged : s.mgmt.staging = some st)
    (complete : missingPart st = none) (good : badValueOf st.parts = none) (thawed : frozen s.run.runState = false) :
    stageCommit payload s
      = accept (targetAnswer st.target) ((installTarget st s).withMgmt { (installTarget st s).mgmt with staging := none }) := by
  rw [stageCommit, staged]
  dsimp only
  rw [complete]
  dsimp only
  rw [good]
  dsimp only
  rw [thawed, if_neg Bool.false_ne_true]

end

theorem badItem_limits {k : Nat} {centre : Option Nat} {limits : List Nat} (hcentre : centre.getD 0 ≤ 60000)
    (range : ∀ l ∈ limits, l ≤ 200000) : badItem k (.limits centre limits) = none := by
  unfold badItem
  dsimp only
  rw [if_neg (show ¬maxCentreHeight < centre.getD 0 from Nat.not_lt.mpr hcentre), Option.map_eq_none_iff, List.findIdx?_eq_none_iff]
  exact fun l hl => decide_eq_false (Nat.not_lt.mpr (range l hl))

theorem badItem_knots {k floor : Nat} {knots : List Int} (range : ∀ o ∈ knots, -2000 ≤ o ∧ o ≤ 2000) :
    badItem k (.knots knots floor) = none := by
  unfold badItem
  rw [List.findIdx?_eq_none_iff]
  exact fun o ho => by simp [inRange_iff.mpr (range o ho)]

/-- Four parts, each in range. -/
theorem badValueOf_envelope {centre : Nat} {l0 l1 l2 l3 : List Nat} (hcentre : centre ≤ 60000)
    (range : ∀ l ∈ l0 ++ l1 ++ l2 ++ l3, l ≤ 200000) :
    badValueOf [(0, .limits (some centre) l0), (1, .limits none l1), (2, .limits none l2), (3, .limits none l3)] = none := by
  simp only [List.mem_append] at range
  simp only [badValueOf,
    badItem_limits (k := 0) (centre := some centre) (limits := l0) hcentre fun l hl => range l (.inl (.inl (.inl hl))),
    badItem_limits (k := 1) (centre := none) (limits := l1) (Nat.zero_le _) fun l hl => range l (.inl (.inl (.inr hl))),
    badItem_limits (k := 2) (centre := none) (limits := l2) (Nat.zero_le _) fun l hl => range l (.inl (.inr hl)),
    badItem_limits (k := 3) (centre := none) (limits := l3) (Nat.zero_le _) fun l hl => range l (.inr hl)]

/-- Settles O37. -/
theorem stagingRequests : Obligations.StagingRequests := by
  refine ⟨fun s r rest => ?_, fun s r rest thawed h => ⟨?envelope, ?calibration⟩⟩
  · intro staged
    refine ⟨fun j hj closed thawed h => ?_, fun p closed thawed h => ?_,
      fun j k parts centre limits below hcentre size range open_ h => ?_,
      fun p parts knots floor size range hfloor open_ h => ?_, fun st open_ h => ?_⟩
    · have target : targetOf 1 j = .inl (.envelope j) := if_pos hj
      exact congrArg Host.Outcome.next (h.accepts (by decide) (by simp)
        (stageOpen_eq (s := beginTaking rest s) (by decide) (by omega) target closed thawed))
    · have target : targetOf 2 (headNumber p) = .inl (.calibration p) := by
        rw [targetOf, headOf_headNumber]
      have number := headNumber_le p
      exact congrArg Host.Outcome.next (h.accepts (by decide) (by simp)
        (stageOpen_eq (s := beginTaking rest s) (by decide) (by omega) target closed thawed))
    · intro st
      have filled := stagePart_eq (s := beginTaking rest s) (payload := limitsPayload k centre limits) open_
        (fieldU_limitsPayload below) (Nat.lt_succ_of_le below) (length_limitsPayload j size)
      rw [partContent_limitsPayload j hcentre size range] at filled
      exact congrArg Host.Outcome.next (h.replies (by decide) filled)
    · intro st
      have filled := stagePart_eq (s := beginTaking rest s) (payload := knotsPayload knots floor) open_
        fieldU_knotsPayload (Nat.lt_succ_self 0) (length_knotsPayload p size)
      rw [partContent_knotsPayload p size range hfloor] at filled
      exact congrArg Host.Outcome.next (h.replies (by decide) filled)
    · have discarded : stageDiscard [] (beginTaking rest s)
          = accept (targetAnswer st.target ++ encU 1 (filledBits st))
            ((beginTaking rest s).withMgmt { (beginTaking rest s).mgmt with staging := none }) := by
        rw [stageDiscard, show (beginTaking rest s).mgmt.staging = some st from open_]
      exact congrArg Host.Outcome.next (h.accepts (by decide) rfl discarded)
  case envelope =>
    intro j centre l0 l1 l2 l3 open_ hcentre range
    have committed := stageCommit_eq (s := beginTaking rest s) (payload := []) open_ rfl (badValueOf_envelope hcentre range) thawed
    have limits : stagedLimits [(0, .limits (some centre) l0), (1, .limits none l1), (2, .limits none l2), (3, .limits none l3)]
        = l0 ++ (l1 ++ (l2 ++ l3)) := by simp [stagedLimits]
    unfold installTarget at committed
    dsimp only at committed
    rw [limits] at committed
    exact congrArg Host.Outcome.next (h.accepts (by decide) rfl committed)
  case calibration =>
    intro p knots floor open_ range
    have good : badValueOf [(0, .knots knots floor)] = none := by
      rw [badValueOf, badItem_knots range]
      rfl
    have committed := stageCommit_eq (s := beginTaking rest s) (payload := []) open_ rfl good thawed
    exact congrArg Host.Outcome.next (h.accepts (by decide) rfl committed)

end Sys2Proof.Machine

/-! READ STATUS and READ TABLE (R179 to R181): what is answered, and the coding of numbers and named values (R196). -/

namespace Sys2Proof.Machine

/-! ### Items -/

theorem flatMap_toList {α β : Type} (f : α → List β) (t : PerHead α) : t.toList.flatMap f = f t.h0 ++ f t.h1 ++ f t.h2 := by
  simp [PerHead.toList]

theorem encKind_eq (x : Option FaultRecord) :
    encKind (x.map FaultRecord.kind) = encOpt 1 (x.map fun y => eventKindCode y.kind) := by
  cases x <;> rfl

/-- A section that exists is answered. -/
theorem exec_readStatus {s : State} {r : Request} {rest : List Request} {code : Nat} {items : List Byte} (small : code ≤ 255)
    (h : Takes s 3 (encU 1 code) r rest) (e : sectionOf code (beginTaking rest s) = some items) :
    exec .readStatus s = .next (answered s r rest .ok items s.run.timebase) := by
  have field : fieldU 0 1 (encU 1 code) = code := fieldU_whole (by omega)
  have read : readStatus (encU 1 code) (beginTaking rest s) = accept items (beginTaking rest s) := by
    rw [readStatus, field, e]
  exact congrArg Host.Outcome.next (h.accepts (by decide) (length_encU ..) read)

theorem sectionOf_eq_none {code : Nat} (h : 10 < code) (s : State) : sectionOf code s = none := by
  obtain ⟨k, rfl⟩ := Nat.exists_eq_add_of_lt h
  rw [Nat.add_right_comm, Nat.add_comm]
  rfl

/-- The items of the three heads in their order. -/
theorem forHeads_eq {α : Type} {f : HeadId → List Byte} {g : α → List Byte} {t : PerHead α} (h : ∀ p, f p = g (t.get p)) :
    f .h0 ++ f .h1 ++ f .h2 = t.toList.flatMap g := by
  rw [flatMap_toList, h, h, h]
  rfl

/-! ### READ TABLE -/

section
variable {s : State}

/-- The form code stands before the address fields. -/
theorem readTable_eq (form : Byte) (address : List Byte) :
    readTable (form :: address) s
      = match form.toNat with
        | 1 => withLength 3 readEntry (form :: address) s
        | 2 => withLength 2 readEnvelope (form :: address) s
        | 3 => withLength 5 readSpan (form :: address) s
        | 4 => withLength 3 readMarker (form :: address) s
        | 5 => withLength 2 readCalibration (form :: address) s
        | _ => badField 1 s := rfl

theorem fieldU_cons (off w : Nat) (b : Byte) (p : List Byte) : fieldU (off + 1) w (b :: p) = fieldU off w p := rfl

theorem readTable_entry {e : Nat} (he : e ≤ 511) :
    readTable (1 :: encU 2 e) s = accept (entryBytes (entryAt s.route e)) s := by
  have field : fieldU 1 2 (1 :: encU 2 e) = e := (fieldU_cons ..).trans (fieldU_whole (by omega))
  refine (readTable_eq _ _).trans ?_
  show withLength 3 readEntry _ s = _
  rw [withLength_eq (by simp), readEntry]
  rw [field, if_neg (Nat.not_lt.mpr he)]

theorem readTable_envelope {j : Nat} (hj : j ≤ 63) :
    readTable (2 :: encU 1 j) s = accept (envelopeBytes (envelopeAt s.route j)) s := by
  have field : fieldU 1 1 (2 :: encU 1 j) = j := (fieldU_cons ..).trans (fieldU_whole (by omega))
  refine (readTable_eq _ _).trans ?_
  show withLength 2 readEnvelope _ s = _
  rw [withLength_eq (by simp), readEnvelope]
  rw [field, if_neg (Nat.not_lt.mpr hj)]

theorem readTable_span {first count : Nat} (hfirst : first ≤ 4095) (some : 1 ≤ count) (few : count ≤ 256)
    (within : first + count ≤ 4096) :
    readTable (3 :: (encU 2 first ++ encU 2 count)) s = accept (spanBytes s.route first count) s := by
  have index : fieldU 1 2 (3 :: (encU 2 first ++ encU 2 count)) = first := (fieldU_cons ..).trans (fieldU_front (by omega))
  have number : fieldU 3 2 (3 :: (encU 2 first ++ encU 2 count)) = count := by
    rw [fieldU_cons]
    simp (disch := omega) only [fieldU_whole, fieldU_skip_encU, Nat.sub_self]
  have good : firstBad [(2, decide (first ≤ 4095) && decide (first + count ≤ cellCount)), (3, inRange 1 256 count)] = none := by
    rw [firstBad_eq_none_iff]
    simp only [List.forall_mem_cons, List.not_mem_nil, false_implies, implies_true, and_true, Bool.and_eq_true,
      decide_eq_true_eq, inRange_iff]
    unfold cellCount
    omega
  refine (readTable_eq _ _).trans ?_
  show withLength 5 readSpan _ s = _
  rw [withLength_eq (by simp), readSpan]
  rw [index, number, good]

theorem readTable_marker {i : Nat} {m : Marker} (hi : i ≤ 65535) (listed : s.route.markers[i]? = some m) :
    readTable (4 :: encU 2 i) s = accept (markerBytes m ++ encU 2 s.route.markers.length) s := by
  have field : fieldU 1 2 (4 :: encU 2 i) = i := (fieldU_cons ..).trans (fieldU_whole (by omega))
  refine (readTable_eq _ _).trans ?_
  show withLength 3 readMarker _ s = _
  rw [withLength_eq (by simp), readMarker, field, listed]

theorem readTable_calibration (h : HeadId) :
    readTable (5 :: encU 1 (headNumber h)) s = accept (calibrationBytes h (s.correctors.get h).calibration) s := by
  have number := headNumber_le h
  have field : fieldU 1 1 (5 :: encU 1 (headNumber h)) = headNumber h := (fieldU_cons ..).trans (fieldU_whole (by omega))
  refine (readTable_eq _ _).trans ?_
  show withLength 2 readCalibration _ s = _
  rw [withLength_eq (by simp), readCalibration, field, headOf_headNumber]

end

/-! ### The coding of numbers -/

theorem leBytes_getElem? {w i : Nat} (n : Nat) (h : i < w) :
    ((leBytes w n)[i]?).map BitVec.toNat = some (n / 256 ^ i % 256) := by
  induction w generalizing n i with
  | zero => exact absurd h (Nat.not_lt_zero i)
  | succ w ih =>
    cases i with
    | zero => simp [leBytes]
    | succ i =>
      rw [leBytes, List.getElem?_cons_succ, ih _ (Nat.lt_of_succ_lt_succ h), Nat.div_div_eq_div_mul, Nat.pow_succ,
        Nat.mul_comm 256]

/-- A signed number in its width is its two's complement (R196). -/
theorem encI_eq_encU {w : Nat} {x : Int} (lo : -(256 ^ w / 2 : Int) ≤ x) (hi : x < 256 ^ w / 2) :
    encI w x = encU w (x % 256 ^ w).toNat := by
  have positive : (0 : Int) < 256 ^ w := by positivity
  have small : (x % 256 ^ w).toNat ≤ 256 ^ w - 1 := by
    have below := Int.emod_lt_of_pos x positive
    zify [Nat.one_le_pow w 256 (by decide)]
    have nonneg := Int.emod_nonneg x positive.ne'
    omega
  unfold encI encU
  dsimp only
  rw [min_eq_left small, min_eq_right (by omega), max_eq_right lo]
  push_cast
  rfl

/-- Settles O36. -/
theorem readRequestsAnswer : Obligations.ReadRequestsAnswer := by
  refine ⟨fun s r rest code small h => ?_, fun s r rest => ⟨fun e he h => ?_, fun j hj h => ?_,
    fun first count hfirst some few within h => ?_, fun i m hi listed h => ?_, fun p h => ?_⟩, fun w n fits => ?_,
    fun w x _ lo hi => encI_eq_encU lo hi, ⟨rfl, rfl⟩, rfl, rfl, rfl, rfl, rfl, rfl, rfl, rfl⟩
  · intro o q m p counts opt forHeads lockOf slot wheel number summary run heads corrector odometry route assembly clearance
      queue faults management
    have optional (w : Nat) (x : Option Nat) : opt w x = encOpt w x := by cases x <;> rfl
    have locked (x : Slot) : lockOf x = slotAnswer x := by
      show encB x.lock ++ encU 1 x.lost ++ opt 1 _ = _
      rw [optional, ← encKind_eq]
      rfl
    have slots (x : Slot) : slot x = slotItems x := by
      unfold slotItems
      show (match x.record with | _ => _) ++ encB x.lock ++ encU 1 x.lost = _
      cases x.record <;> rfl
    have each {α : Type} {f : HeadId → List Byte} {g : α → List Byte} {t : PerHead α} (same : ∀ p, f p = g (t.get p)) :
        forHeads f = t.toList.flatMap g := forHeads_eq same
    refine ⟨fun items listed => ?_, fun beyond => ?_⟩
    · refine exec_readStatus small h ?_
      simp only [List.mem_cons, Prod.mk.injEq, List.not_mem_nil, or_false] at listed
      rcases listed with ⟨rfl, rfl⟩ | ⟨rfl, rfl⟩ | ⟨rfl, rfl⟩ | ⟨rfl, rfl⟩ | ⟨rfl, rfl⟩ | ⟨rfl, rfl⟩ | ⟨rfl, rfl⟩ | ⟨rfl, rfl⟩
        | ⟨rfl, rfl⟩ | ⟨rfl, rfl⟩ | ⟨rfl, rfl⟩
      · refine congrArg some ?_
        simp only [summarySection, summary, List.flatten_cons, List.flatten_nil, List.append_assoc, List.append_nil,
          locked, flatMap_toList]
        rfl
      · refine congrArg some ?_
        simp only [runSection, run, List.flatten_cons, List.flatten_nil, List.append_assoc, List.append_nil, optional, paramBytes]
        rfl
      · refine congrArg some ((flatMap_toList portItems s.ports).trans ?_)
        simp only [heads, List.flatten_cons, List.flatten_nil, List.append_nil]
        rfl
      · refine congrArg some ((flatMap_toList correctorItems s.correctors).trans ?_)
        simp only [corrector, List.flatten_cons, List.flatten_nil, List.append_nil]
        rfl
      · refine congrArg some ?_
        simp only [odometrySection, odometry, List.flatten_cons, List.flatten_nil, List.append_assoc, List.append_nil]
        rw [beginTaking_odo]
        cases s.odo.lastMatched <;> rfl
      · refine congrArg some ?_
        simp only [routeSection, route, List.flatten_cons, List.flatten_nil, List.append_assoc, List.append_nil,
          definedEntries, definedEnvelopes, markersOf, List.countP_eq_length_filter]
        rw [show guardLine (beginTaking rest s) = guardLine s from rfl]
        cases guardLine s <;> rfl
      · refine congrArg some ?_
        have items : contextItems
            = fun c => encU 4 c.station ++ encU 4 c.openTime ++ forHeads fun h => encU 2 (c.tallies.get h).slices :=
          funext fun c => congrArg (_ ++ ·) (each (t := c.tallies) fun _ => rfl).symm
        have stations : (forHeads fun h => encOpt 4 (s.assembler.lastStation.get h))
            = s.assembler.lastStation.toList.flatMap (encOpt 4) := each fun _ => rfl
        have discards : (forHeads fun h => counts [(s.assembler.discards.get h).reversed,
              (s.assembler.discards.get h).beforeStart, (s.assembler.discards.get h).late])
            = s.assembler.discards.toList.flatMap fun d => encCounts [d.reversed, d.beforeStart, d.late] :=
          each (g := fun d : SliceDiscards => encCounts [d.reversed, d.beforeStart, d.late]) fun _ => rfl
        simp only [assemblySection, assembly, List.flatten_cons, List.flatten_nil, List.append_assoc, List.append_nil, encList,
          optional, items, stations, discards]
        rfl
      · refine congrArg some ?_
        simp only [clearanceSection, clearance, List.flatten_cons, List.flatten_nil, List.append_assoc, List.append_nil]
        rw [beginTaking_comparator]
        cases s.comparator.lastAlert <;> rfl
      · refine congrArg some ?_
        simp only [queueSection, queue, List.flatten_cons, List.flatten_nil, List.append_assoc, List.append_nil]
        rfl
      · refine congrArg some ?_
        simp only [faultsSection, faults, List.flatten_cons, List.flatten_nil, List.append_assoc, List.append_nil, slots]
        rfl
      · refine congrArg some ?_
        simp only [managementSection, management, List.flatten_cons, List.flatten_nil, List.append_assoc, List.append_nil, encList]
        rw [beginTaking_mgmt]
        cases s.mgmt.staging <;> cases s.mgmt.lastTaken <;> rfl
    · have none := sectionOf_eq_none beyond (beginTaking rest s)
      have field : fieldU 0 1 (encU 1 code) = code := fieldU_whole (by omega)
      have read : readStatus (encU 1 code) (beginTaking rest s) = badField 1 (beginTaking rest s) := by
        rw [readStatus, field, none]
      exact congrArg Host.Outcome.next (h.replies (by decide) ((withLength_eq (length_encU ..)).trans read))
  · exact congrArg Host.Outcome.next (h.replies (by decide) (readTable_entry (s := beginTaking rest s) he))
  · exact congrArg Host.Outcome.next (h.replies (by decide) (readTable_envelope (s := beginTaking rest s) hj))
  · have read := readTable_span (s := beginTaking rest s) hfirst some few within
    rw [spanBytes, encList, List.length_range, ← List.append_assoc] at read
    exact congrArg Host.Outcome.next (h.replies (by decide) read)
  · exact congrArg Host.Outcome.next (h.replies (by decide) (readTable_marker (s := beginTaking rest s) hi listed))
  · exact congrArg Host.Outcome.next (h.replies (by decide) (readTable_calibration (s := beginTaking rest s) p))
  · refine ⟨length_encU w n, fun i below => ?_⟩
    rw [encU, min_eq_left (by omega)]
    exact leBytes_getElem? n below

end Sys2Proof.Machine

/-! A slice that is passed on (R110 to R113, R40, R41, R54, R55, R119, R120): discarded, or placed with the closures behind it. -/

namespace Sys2Proof.Machine

/-! ### Slices that the Assembler discards -/

/-- The Assembler refuses a slice of a chainage (R110, R111). -/
def sliceRefused (s : State) (x : Int) : Prop :=
  s.odo.reversed = true ∨ stationOf s.run.params x < s.assembler.closedLine
    ∨ (8 ≤ s.assembler.contexts.length ∧ ∀ c ∈ s.assembler.contexts, stationOf s.run.params x < c.station)

/-- A head's discards with one more for the first reason that applies. -/
def refusalCounted (s : State) (x : Int) (d : SliceDiscards) : SliceDiscards :=
  if s.odo.reversed then { d with reversed := inc32 d.reversed }
  else if stationOf s.run.params x < 0 then { d with beforeStart := inc32 d.beforeStart }
  else { d with late := inc32 d.late }

section
variable {s : State} {j : Nat} {sl : PassedSlice}

/-- A station below every one of eight open contexts is late (R111). -/
theorem arriveAt_late {turn : PointsTurn} (full : 8 ≤ s.assembler.contexts.length)
    (below : ∀ c ∈ s.assembler.contexts, j < c.station) : arriveAt turn j sl s = discardSlice sl.head countLate s := by
  have absent : contextFor j s = none := List.find?_eq_none.mpr fun c hc => by simpa using (below c hc).ne'
  unfold arriveAt
  rw [absent]
  dsimp only
  rw [if_neg (show ¬s.assembler.contexts.length < contextCapacity from Nat.not_lt.mpr full)]
  split
  · rename_i none
    simp [none] at full
  · rename_i oldest later set
    rw [if_neg (Nat.not_lt.mpr (below oldest (by rw [set]; exact List.mem_cons_self ..)).le)]

theorem arriveSlice_refused {turn : PointsTurn} (refused : sliceRefused s sl.chainage) :
    arriveSlice turn sl s = discardSlice sl.head (refusalCounted s sl.chainage) s := by
  unfold arriveSlice refusalCounted
  dsimp only
  by_cases reversed : s.odo.reversed = true
  · simp only [if_pos reversed]
    rfl
  · simp only [if_neg reversed]
    by_cases negative : stationOf s.run.params sl.chainage < 0
    · simp only [if_pos negative]
      rfl
    · simp only [if_neg negative]
      by_cases behind : stationOf s.run.params sl.chainage < s.assembler.closedLine
      · rw [if_pos behind]
        rfl
      · rw [if_neg behind]
        obtain ⟨full, below⟩ := (refused.resolve_left reversed).resolve_left behind
        exact arriveAt_late full fun c hc => by have := below c hc; omega

/-- A slice refused changes its head's count and the model's count of choices. -/
theorem deliverSlice_refused (refused : sliceRefused s sl.chainage) :
    deliverSlice sl s
      = { s with
        choices := s.choices + 1
        assembler :=
          { s.assembler with
            discards :=
              s.assembler.discards.set sl.head (refusalCounted s sl.chainage (s.assembler.discards.get sl.head)) } } :=
  arriveSlice_refused (s := s.withChoices (s.choices + 1)) refused

end

/-- The whole SLICE at the expected index of its STREAMING port in RUNNING (R26, R31). -/
theorem exec_slice_expected {p : HeadId} {s : State} {current revolution start : Nat} {samples : List Sample}
    (good : SliceIsGood (headClass (s.ports.get p).classCode).samples revolution start samples) (inside : start ≠ 0)
    (streams : (s.ports.get p).state = .streaming) (expects : (s.ports.get p).expected = some start)
    (turns : (s.ports.get p).revolution = some current) (running : s.run.runState = .running) :
    exec (.slice p (slicePayload revolution start samples)) s
      = .next (endEvent (deliverSlice
          { head := p, revolution := current, start := start, samples := samples, arrival := s.run.timebase
            chainage := s.odo.c, warn := (s.ports.get p).warn, gap := (s.ports.get p).gapReported }
          { s with
            ports := s.ports.set p
              { streamedPort (s.ports.get p) start current revolution start samples.length with
                passedOn := inc32 (s.ports.get p).passedOn } })) := by
  have sequenced := (sliceSequenced p s start current revolution start samples good streams expects turns).2 running
  have told : (if start = start ∨ (s.ports.get p).gapReported = true then s
      else raiseSoft (.port p) (.gap start start current) s) = s := if_pos (.inl rfl)
  rw [told, if_neg inside, if_neg inside] at sequenced
  simpa only [ne_eq, not_true_eq_false, decide_false, Bool.or_false] using sequenced

/-- Settles O10. -/
theorem passedSliceDiscarded : Obligations.PassedSliceDiscarded := by
  refine ⟨fun sl s refused => deliverSlice_refused refused,
    fun p s current revolution start samples good inside streams expects turns running refused => ?_⟩
  have off : sliceRefused s s.odo.c := refused
  exact (exec_slice_expected good inside streams expects turns running).trans
    (congrArg (fun t => Host.Outcome.next (endEvent t)) (deliverSlice_refused off))

/-! ### Opening a context -/

/-- A context of a new station takes its place in the set. -/
theorem insertContext_eq {c : Context} {l : List Context} (sorted : l.Pairwise fun c d => c.station < d.station)
    (new : ∀ d ∈ l, d.station ≠ c.station) :
    insertContext c l = (l.filter fun d => decide (d.station < c.station)) ++ c
      :: l.filter fun d => decide (c.station < d.station) := by
  induction l with
  | nil => rfl
  | cons d rest ih =>
    obtain ⟨above, sorted⟩ := List.pairwise_cons.mp sorted
    have off := new d (List.mem_cons_self ..)
    unfold insertContext
    split_ifs with before
    · have later : ∀ x ∈ d :: rest, c.station < x.station :=
        List.forall_mem_cons.mpr ⟨before, fun x hx => before.trans (above x hx)⟩
      rw [List.filter_eq_nil_iff.mpr fun x hx => by simp [(later x hx).le],
        List.filter_eq_self.mpr fun x hx => by simp [later x hx]]
      rfl
    · have behind : d.station < c.station := by omega
      rw [ih sorted fun x hx => new x (List.mem_cons_of_mem _ hx), List.filter_cons_of_pos (by simp [behind]),
        List.filter_cons_of_neg (by simp [behind.le])]
      rfl

theorem centreOf_eq (p : RunParams) (j : Nat) :
    centreOf p j
      = if p.direction = .up then p.origin + ((j : Int) * p.pitch + p.pitch / 2)
        else p.origin - ((j : Int) * p.pitch + p.pitch / 2) := by
  unfold centreOf
  cases p.direction <;> simp

/-! ### Placing a slice -/

theorem raiseStation_eq (j : Nat) (last : Option Nat) :
    raiseStation j last = some (match last with | none => j | some k => max k j) := by
  cases last with
  | none => rfl
  | some k =>
    unfold raiseStation
    dsimp only
    split_ifs <;> congr 1 <;> omega

theorem closures_singleton (reason : Context → Option CloseReason) (c : Context) (s : State) :
    closures reason [c] s = closeContext (reason c) c s := by
  rw [closures_cons]
  exact Prod.ext rfl (Bool.or_false _)

/-- The state in which the context of a station takes a slice: as it is, with a context opened, or with one opened after the
oldest of eight is closed FORCED (R111). -/
inductive Opened (j : Nat) (s : State) : State → Bool → Prop where
  | already : contextFor j s ≠ none → Opened j s s false
  | fresh : contextFor j s = none → s.assembler.contexts.length < 8 → Opened j s (openContext j s) false
  | forced {oldest : Context} : contextFor j s = none → 8 ≤ s.assembler.contexts.length →
      s.assembler.contexts.head? = some oldest → oldest.station < j →
      Opened j s (openContext j (closeContext (some .forced) oldest s).1) (closeContext (some .forced) oldest s).2

section
variable {s s0 : State} {j : Nat} {sl : PassedSlice} {lost : Bool} {turn : PointsTurn}

theorem arriveAt_opened (opened : Opened j s s0 lost) : arriveAt turn j sl s = placeSlice turn j sl (s0, lost) := by
  unfold arriveAt
  cases opened with
  | already found =>
    obtain ⟨c, e⟩ := Option.ne_none_iff_exists'.mp found
    rw [e]
  | fresh absent room =>
    rw [absent]
    exact if_pos room
  | forced absent full oldest older =>
    obtain ⟨later, e⟩ := List.head?_eq_some_iff.mp oldest
    rw [absent]
    dsimp only
    rw [if_neg (show ¬s.assembler.contexts.length < contextCapacity from Nat.not_lt.mpr full), e]
    exact if_pos older

/-- A slice passed on for a station that the Assembler takes. -/
theorem deliverSlice_opened (ahead : s.odo.reversed = false) (station : stationOf s.run.params sl.chainage = j)
    (line : s.assembler.closedLine ≤ j) (opened : Opened j (s.withChoices (s.choices + 1)) s0 lost) :
    deliverSlice sl s = placeSlice (Config.pointsTurn s.choices) j sl (s0, lost) := by
  rw [← arriveAt_opened opened]
  unfold deliverSlice arriveSlice
  dsimp only
  rw [State.withChoices_odo, State.withChoices_run, State.withChoices_assembler, ahead, if_neg Bool.false_ne_true, station,
    if_neg (by omega), if_neg (by omega), Int.toNat_natCast]

theorem Opened.run (opened : Opened j s s0 lost) : s0.run.runState = s.run.runState := by
  cases opened with
  | already | fresh => rfl
  | forced => simp [openContext]

end

/-! ### The end of a placed slice's event -/

section
variable {u : State} {lost : Bool} {sl : PassedSlice} {points : List CorrectedPoint}

/-- The progress closures of a placed slice, with what its event has lost already. -/
def progressClosed (lost : Bool) (u v : State) : State × Bool :=
  ((closures (fun _ => none) (u.assembler.contexts.filter fun d => progressHolds u d.station) v).1,
    lost || (closures (fun _ => none) (u.assembler.contexts.filter fun d => progressHolds u d.station) v).2)

theorem progressTest_eq (u : State) :
    progressTest u = closures (fun _ => none) (u.assembler.contexts.filter fun d => progressHolds u d.station) u :=
  (closures_eq_closeAll ..).symm

/-- The point list does not show in the progress test. -/
theorem progressTest_offerPoints (u : State) :
    progressTest (offerPoints sl points u)
      = closures (fun _ => none) (u.assembler.contexts.filter fun d => progressHolds u d.station) (offerPoints sl points u) := by
  have same (k : Nat) : progressHolds (offerPoints sl points u) k = progressHolds u k := by simp [progressHolds]
  rw [progressTest_eq, offerPoints_assembler]
  simp only [same]

theorem progressClosed_running {v : State} (running : v.run.runState = .running) :
    inSurvey (progressClosed lost u v).1.run.runState = true := by
  show inSurvey (closures _ _ _).1.run.runState = true
  rw [(closures_closedOut _ _ v).run, running]
  rfl

theorem finishSlice_beforeClosures (running : u.run.runState = .running) :
    finishSlice .beforeClosures sl points (u, lost) = afterClosures (progressClosed lost u (offerPoints sl points u)) := by
  have survey := progressClosed_running (lost := lost) (u := u) (v := offerPoints sl points u) (by simpa using running)
  rw [← decideHalt_eq_afterClosures _ survey, finishSlice]
  dsimp only
  rw [progressTest_offerPoints]
  rfl

theorem finishSlice_beforeHaltDecision (running : u.run.runState = .running) :
    finishSlice .beforeHaltDecision sl points (u, lost)
      = afterClosures (offerPoints sl points (progressClosed lost u u).1, (progressClosed lost u u).2) := by
  have survey : inSurvey (offerPoints sl points (progressClosed lost u u).1).run.runState = true := by
    rw [offerPoints_run_runState]
    exact progressClosed_running running
  rw [← decideHalt_eq_afterClosures (offerPoints sl points (progressClosed lost u u).1, (progressClosed lost u u).2) survey,
    finishSlice]
  dsimp only
  rw [progressTest_eq]
  rfl

theorem finishSlice_afterHaltDecision (running : u.run.runState = .running) :
    finishSlice .afterHaltDecision sl points (u, lost)
      = offerPoints sl points (afterClosures (progressClosed lost u u)) := by
  rw [← decideHalt_eq_afterClosures _ (progressClosed_running running), finishSlice]
  dsimp only
  rw [progressTest_eq]
  rfl

/-- Where no context meets the condition the order does not show. -/
theorem finishSlice_of_none (running : u.run.runState = .running) (turn : PointsTurn)
    (none : ∀ d ∈ u.assembler.contexts, progressHolds u d.station = false) :
    finishSlice turn sl points (u, false) = offerPoints sl points u := by
  have empty : (u.assembler.contexts.filter fun d => progressHolds u d.station) = [] :=
    List.filter_eq_nil_iff.mpr fun d hd => by simp [none d hd]
  have stays (v : State) : progressClosed false u v = (v, false) := by
    rw [progressClosed, empty]
    rfl
  cases turn with
  | beforeClosures => rw [finishSlice_beforeClosures running, stays]; rfl
  | beforeHaltDecision => rw [finishSlice_beforeHaltDecision running, stays]; rfl
  | afterHaltDecision => rw [finishSlice_afterHaltDecision running, stays]; rfl

end

theorem placeSlice_eq {turn : PointsTurn} {j : Nat} {sl : PassedSlice} {s : State} {lost : Bool} {c : Context}
    (found : contextFor j s = some c) :
    placeSlice turn j sl (s, lost)
      = finishSlice turn sl (acceptedPoints (correctFrom (correctionSetup s sl.head c.copy) sl.start sl.samples))
        (feedSlice j sl (correctFrom (correctionSetup s sl.head c.copy) sl.start sl.samples) s, lost) := by
  unfold placeSlice
  dsimp only
  rw [found]

/-- A context that takes a slice of a head, its accepted points going to their sectors (R54, R113). -/
def fedContext (p : HeadId) (revolution timeout : Nat) (mode : OdoMode) (warn gap : Bool) (points : List CorrectedPoint)
    (d : Context) : Context :=
  accumulate p points
    { d with
      tallies := d.tallies.set p
        { slices := min 65535 ((d.tallies.get p).slices + 1)
          first := if (d.tallies.get p).slices = 0 then some revolution else (d.tallies.get p).first
          last := some revolution }
      worst := worseMode d.worst mode
      warnSeen := d.warnSeen || warn
      gapSeen := d.gapSeen || gap
      timer := some (1000 * timeout) }

theorem feedSlice_eq (j : Nat) (sl : PassedSlice) (results : List SampleResult) (s : State) :
    feedSlice j sl results s
      = { s with
          correctors := s.correctors.set sl.head (results.foldl countSample (s.correctors.get sl.head))
          assembler :=
            { s.assembler with
              contexts := s.assembler.contexts.map fun d =>
                if d.station = j then
                  fedContext sl.head sl.revolution s.run.params.closeTimeout s.odo.mode sl.warn sl.gap
                    (acceptedPoints results) d
                else d
              lastStation := s.assembler.lastStation.set sl.head
                (some (match s.assembler.lastStation.get sl.head with | none => j | some k => max k j)) } } := by
  rw [← raiseStation_eq]
  rfl

/-- A context opened in the set (R112). -/
theorem openContext_eq {s : State} {j : Nat} (sorted : s.assembler.contexts.Pairwise fun c d => c.station < d.station)
    (absent : contextFor j s = none) :
    openContext j s
      = s.withAssembler { s.assembler with
          contexts := (s.assembler.contexts.filter fun c => decide (c.station < j)) ++ newContext s j
            :: s.assembler.contexts.filter fun c => decide (j < c.station) } := by
  have new : ∀ d ∈ s.assembler.contexts, d.station ≠ (newContext s j).station := fun d hd => by
    simpa [newContext] using (List.find?_eq_none.mp absent) d hd
  rw [openContext, insertContext_eq sorted new]
  rfl

/-- What a slice leaves of a port does not show in the correction (R40). -/
theorem correctionSetup_streamed {s t : State} {p : HeadId} {current revolution start count passed : Nat} {copy : RouteCopy}
    (ports : t.ports = s.ports.set p
      { streamedPort (s.ports.get p) start current revolution start count with passedOn := passed })
    (correctors : t.correctors = s.correctors) (params : t.run.params = s.run.params) :
    correctionSetup t p copy = correctionSetup s p copy := by
  unfold correctionSetup
  dsimp only
  rw [ports, correctors, params, PerHead.get_set]
  rfl

/-- Settles O11: the slice is placed by `Opened`, fed by `feedSlice_eq`, and its event ended by `finishSlice`. -/
theorem slicePlaced : Obligations.SlicePlaced := by
  refine ⟨?placed, fun s j sorted absent => ?opened, ?whole⟩
  case placed =>
    intro sl s s0 lost j c running ahead station line drawn cases' found results points u passed
    have opened : Opened j drawn s0 lost := by
      rcases cases' with ⟨here, rfl, rfl⟩ | ⟨absent, room, rfl, rfl⟩ | ⟨absent, full, oldest, first, older, rfl, rfl⟩
      · exact .already here
      · exact .fresh absent room
      · rw [closures_singleton]
        exact .forced absent full first older
    have runs : u.run.runState = .running := opened.run.trans running
    have fed : feedSlice j sl results s0 = u := feedSlice_eq j sl results s0
    rw [deliverSlice_opened ahead station line opened, placeSlice_eq found, fed]
    cases Config.pointsTurn s.choices with
    | beforeClosures => exact finishSlice_beforeClosures runs
    | beforeHaltDecision => exact finishSlice_beforeHaltDecision runs
    | afterHaltDecision => exact finishSlice_afterHaltDecision runs
  case opened =>
    intro up offset centre
    rw [openContext_eq sorted absent, newContext, centreOf_eq]
    rfl
  case whole =>
    intro p s s0 j current revolution start samples c good inside streams expects turns running ahead station line cases' found
      results sl u none
    let port : Port :=
      { streamedPort (s.ports.get p) start current revolution start samples.length with
        passedOn := inc32 (s.ports.get p).passedOn }
    have opened : Opened j ((s.withPort p port).withChoices (s.choices + 1)) ((s0.withPort p port).withChoices (s.choices + 1))
        false := by
      rcases cases' with ⟨here, rfl⟩ | ⟨absent, room, rfl⟩
      · exact .already here
      · exact .fresh absent room
    have kept : s0.ports = s.ports ∧ s0.correctors = s.correctors ∧ s0.run = s.run := by
      rcases cases' with ⟨-, rfl⟩ | ⟨-, -, rfl⟩ <;> exact ⟨rfl, rfl, rfl⟩
    obtain ⟨ports, correctors, run⟩ := kept
    have setup : correctionSetup ((s0.withPort p port).withChoices (s.choices + 1)) p c.copy = correctionSetup s p c.copy :=
      correctionSetup_streamed (show s0.ports.set p port = _ by rw [ports]) correctors (congrArg RunControl.params run)
    have fed : feedSlice j sl results ((s0.withPort p port).withChoices (s.choices + 1)) = u := by
      rcases cases' with ⟨-, rfl⟩ | ⟨-, -, rfl⟩ <;> exact feedSlice_eq ..
    have runs : u.run.runState = .running := (congrArg RunControl.runState run).trans running
    have placed := placeSlice_eq (turn := Config.pointsTurn s.choices) (sl := sl) (lost := false)
      (s := (s0.withPort p port).withChoices (s.choices + 1)) (c := c) found
    rw [setup, fed, finishSlice_of_none runs _ none] at placed
    rw [exec_slice_expected good inside streams expects turns running]
    exact congrArg (fun t => Host.Outcome.next (endEvent t))
      ((deliverSlice_opened (sl := sl) (s := s.withPort p port) ahead station line opened).trans placed)

end Sys2Proof.Machine

/-! The course of a sample (R42 to R46), and frames read back from the bytes of a link (R21, R165, R197). -/

namespace Sys2Proof.Machine

/-! ### The course of a sample -/

/-- A part of a step, rounded, lies between none and the whole of it (R45). -/
theorem rnd_part_bounds {d : Int} {f : Nat} (h : f < 10000) :
    min 0 d ≤ rnd (d * f) 10000 ∧ rnd (d * f) 10000 ≤ max 0 d := by
  rcases le_or_gt 0 d with up | down
  · have lo : 0 ≤ d * f := by positivity
    have hi : d * f ≤ d * 9999 := mul_le_mul_of_nonneg_left (by omega) up
    rw [rnd, if_pos lo]
    omega
  · have hi : d * f ≤ 0 := mul_nonpos_of_nonpos_of_nonneg down.le (by positivity)
    have lo : d * 9999 ≤ d * f := mul_le_mul_of_nonpos_left (by omega) down.le
    unfold rnd
    split <;> omega

/-- Below 160,000 the band of a range is that of its tens of thousands. -/
theorem correctedRange_of_lt {knots : List Int} {rt : Nat} (h : rt < 160000) :
    correctedRange knots rt - rt
      = knots.getD (rt / 10000) 0
        + rnd ((knots.getD (rt / 10000 + 1) 0 - knots.getD (rt / 10000) 0) * (rt % 10000 : Nat)) 10000 := by
  have band : min (rt / 10000) 15 = rt / 10000 := min_eq_left (by omega)
  have offset : rt - 10000 * (rt / 10000) = rt % 10000 := by omega
  unfold correctedRange
  dsimp only
  rw [band, offset, add_sub_cancel_left]

/-- Settles O17: the discards in their order, and the correction between the knots of its band. -/
theorem sampleCourse : Obligations.SampleCourse := by
  refine ⟨fun k a x => ?_, fun knots rt _ within => ?_⟩
  · unfold correctSample classifyRaw occlusionBlock tableIndex
    split_ifs <;> simp [*]
  · intro o0 o1
    obtain ⟨lo, hi⟩ := rnd_part_bounds (d := o1 - o0) (Nat.mod_lt rt (by decide))
    have corrected : correctedRange knots rt - rt = o0 + rnd ((o1 - o0) * (rt % 10000 : Nat)) 10000 :=
      correctedRange_of_lt within
    rw [corrected]
    refine ⟨by omega, by omega, fun knot => ?_⟩
    rw [knot, Nat.cast_zero, mul_zero]
    exact add_zero o0

/-! ### Frames read back -/

/-- The two bytes of a sync do not stand behind one another. -/
def noSync (a b : Byte) (l : List Byte) : Prop := ∀ i, ¬(l[i]? = some a ∧ l[i + 1]? = some b)

theorem noSync_tail {a b x : Byte} {l : List Byte} (h : noSync a b (x :: l)) : noSync a b l := fun i => h (i + 1)

theorem leBytes_two (n : Nat) : leBytes 2 n = [BitVec.ofNat 8 n, BitVec.ofNat 8 (n / 256)] := rfl

theorem leNat_leBytes_two {n : Nat} (h : n < 65536) : leNat [BitVec.ofNat 8 n, BitVec.ofNat 8 (n / 256)] = n := by
  rw [← leBytes_two, leNat_leBytes]
  exact Nat.mod_eq_of_lt h

/-- What stands behind a payload in its frame. -/
theorem take_drop_payload {payload tail rest : List Byte} {n : Nat} (size : payload.length = n) :
    (payload ++ (tail ++ rest)).take n = payload ∧ (payload ++ (tail ++ rest)).drop (n + tail.length) = rest := by
  subst size
  exact ⟨List.take_left, by rw [← List.drop_drop, List.drop_left, List.drop_left]⟩

theorem fieldU_behind_payload {payload rest : List Byte} {w n crc : Nat} (size : payload.length = n) (fits : crc < 256 ^ w) :
    fieldU n w (payload ++ (leBytes w crc ++ rest)) = crc := by
  rw [fieldU_skip payload size.le, size, Nat.sub_self, fieldU, List.drop_zero,
    List.take_left' (length_leBytes w crc), leNat_leBytes, Nat.mod_eq_of_lt fits]

section
variable {p : HeadId} {fuel : Nat} {payload rest : List Byte} {kind : Byte}

/-- A byte that starts no sync is passed over (R21). -/
theorem receiveHeadFrom_skip {b : Byte} (h : ¬(b = 171 ∧ rest.head? = some 205)) :
    receiveHeadFrom p (fuel + 1) (b :: rest) = receiveHeadFrom p fuel rest := by
  rw [receiveHeadFrom]
  rintro kind l0 l1 tail rfl rfl
  exact h ⟨rfl, rfl⟩

/-- A whole head frame is one command. -/
theorem receiveHeadFrom_frame (size : payload.length ≤ 774) :
    receiveHeadFrom p (fuel + 1) (headFrame kind payload ++ rest)
      = headCommand p kind payload (headCrc kind payload) :: receiveHeadFrom p fuel rest := by
  have bytes : headFrame kind payload ++ rest
      = 171#8 :: 205#8 :: kind :: BitVec.ofNat 8 payload.length :: BitVec.ofNat 8 (payload.length / 256)
        :: (payload ++ (leBytes 2 (headCrc kind payload).toNat ++ rest)) := by
    simp [headFrame, crcInput, leBytes_two]
  have length : leNat [BitVec.ofNat 8 payload.length, BitVec.ofNat 8 (payload.length / 256)] = payload.length :=
    leNat_leBytes_two (by omega)
  have whole : ¬(payload ++ (leBytes 2 (headCrc kind payload).toNat ++ rest)).length < payload.length + 2 := by
    simp
    omega
  obtain ⟨front, behind⟩ := take_drop_payload (payload := payload) (tail := leBytes 2 (headCrc kind payload).toNat)
    (rest := rest) rfl
  rw [length_leBytes] at behind
  rw [bytes, receiveHeadFrom, length, if_neg (show ¬headPayloadLimit < payload.length from Nat.not_lt.mpr size), if_neg whole, front, behind,
    fieldU_behind_payload rfl (headCrc kind payload).isLt, BitVec.ofNat_toNat, BitVec.setWidth_eq]

/-- Bytes without a sync before a frame are passed over. -/
theorem receiveHeadFrom_search {pre : List Byte} (clear : noSync 171 205 pre) (next : rest.head? = some 171) :
    receiveHeadFrom p (pre.length + fuel) (pre ++ rest) = receiveHeadFrom p fuel rest := by
  induction pre with
  | nil => rw [List.length_nil, Nat.zero_add, List.nil_append]
  | cons b pre ih =>
    have start : ¬(b = 171 ∧ (pre ++ rest).head? = some 205) := by
      rintro ⟨rfl, second⟩
      cases pre with
      | nil => simp [next] at second
      | cons c pre => exact clear 0 ⟨rfl, second⟩
    rw [List.cons_append, List.length_cons, Nat.add_right_comm, receiveHeadFrom_skip start, ih (noSync_tail clear)]

end

/-- The command of a head frame whose CRC matches. -/
theorem headCommand_eq (p : HeadId) (kind : Byte) (payload : List Byte) :
    headCommand p kind payload (headCrc kind payload)
      = if kind = 1 then Instr.slice p payload
        else if kind = 2 then Instr.headStatus p payload
        else Instr.headFrameDiscarded p kind payload (headCrc kind payload) := by
  unfold headCommand
  simp only [true_and]
  rfl

theorem receiveHeadFrom_nil (p : HeadId) (fuel : Nat) : receiveHeadFrom p fuel [] = [] := by
  cases fuel <;> rfl

theorem head?_headFrame (kind : Byte) (payload rest : List Byte) : (headFrame kind payload ++ rest).head? = some 171 := rfl

/-- The bytes of a head link, with enough fuel, are the commands of their frames. -/
theorem receiveHeadFrom_frames (p : HeadId) {frames : List (List Byte × Byte × List Byte)} {fuel : Nat}
    (h : ∀ f ∈ frames, noSync 171 205 f.1 ∧ f.2.2.length ≤ 774)
    (enough : (frames.flatMap fun f => f.1 ++ headFrame f.2.1 f.2.2).length ≤ fuel) :
    receiveHeadFrom p fuel (frames.flatMap fun f => f.1 ++ headFrame f.2.1 f.2.2)
      = frames.map fun f => headCommand p f.2.1 f.2.2 (headCrc f.2.1 f.2.2) := by
  induction frames generalizing fuel with
  | nil => exact receiveHeadFrom_nil p fuel
  | cons f later ih =>
    obtain ⟨clear, size⟩ := h f (List.mem_cons_self ..)
    rw [List.flatMap_cons, List.append_assoc] at enough ⊢
    have frame : 0 < (headFrame f.2.1 f.2.2).length := by simp [headFrame]
    simp only [List.length_append] at enough
    obtain ⟨more, rfl⟩ := Nat.exists_eq_add_of_le (show f.1.length + 1 ≤ fuel by omega)
    rw [Nat.add_assoc, receiveHeadFrom_search clear (head?_headFrame ..), Nat.add_comm 1, receiveHeadFrom_frame size,
      ih (fun x hx => h x (List.mem_cons_of_mem f hx)) (by omega), List.map_cons]

section
variable {fuel : Nat} {payload rest : List Byte} {kind : Byte}

/-- A byte that starts no sync is passed over (R165). -/
theorem receiveTrunkFrom_skip {b : Byte} (h : ¬(b = 90 ∧ rest.head? = some 195)) :
    receiveTrunkFrom (fuel + 1) (b :: rest) = receiveTrunkFrom fuel rest := by
  rw [receiveTrunkFrom]
  rintro kind l0 l1 tail rfl rfl
  exact h ⟨rfl, rfl⟩

/-- A whole trunk frame is one command. -/
theorem receiveTrunkFrom_frame (size : payload.length ≤ 1026) :
    receiveTrunkFrom (fuel + 1) (trunkFrame kind payload ++ rest)
      = trunkCommand kind payload (trunkCrc kind payload) :: receiveTrunkFrom fuel rest := by
  have bytes : trunkFrame kind payload ++ rest
      = 90#8 :: 195#8 :: kind :: BitVec.ofNat 8 payload.length :: BitVec.ofNat 8 (payload.length / 256)
        :: (payload ++ (leBytes 4 (trunkCrc kind payload).toNat ++ rest)) := by
    simp [trunkFrame, crcInput, leBytes_two]
  have length : leNat [BitVec.ofNat 8 payload.length, BitVec.ofNat 8 (payload.length / 256)] = payload.length :=
    leNat_leBytes_two (by omega)
  have whole : ¬(payload ++ (leBytes 4 (trunkCrc kind payload).toNat ++ rest)).length < payload.length + 4 := by
    simp
  obtain ⟨front, behind⟩ := take_drop_payload (payload := payload) (tail := leBytes 4 (trunkCrc kind payload).toNat)
    (rest := rest) rfl
  rw [length_leBytes] at behind
  rw [bytes, receiveTrunkFrom, length, if_neg (show ¬requestPayloadLimit + 2 < payload.length from Nat.not_lt.mpr size),
    if_neg whole, front, behind, fieldU_behind_payload rfl (trunkCrc kind payload).isLt, BitVec.ofNat_toNat,
    BitVec.setWidth_eq]

theorem receiveTrunkFrom_search {pre : List Byte} (clear : noSync 90 195 pre) (next : rest.head? = some 90) :
    receiveTrunkFrom (pre.length + fuel) (pre ++ rest) = receiveTrunkFrom fuel rest := by
  induction pre with
  | nil => rw [List.length_nil, Nat.zero_add, List.nil_append]
  | cons b pre ih =>
    have start : ¬(b = 90 ∧ (pre ++ rest).head? = some 195) := by
      rintro ⟨rfl, second⟩
      cases pre with
      | nil => simp [next] at second
      | cons c pre => exact clear 0 ⟨rfl, second⟩
    rw [List.cons_append, List.length_cons, Nat.add_right_comm, receiveTrunkFrom_skip start, ih (noSync_tail clear)]

end

theorem receiveTrunkFrom_nil (fuel : Nat) : receiveTrunkFrom fuel [] = [] := by
  cases fuel <;> rfl

/-- The command of a REQUEST frame whose CRC matches. -/
theorem trunkCommand_request (tag code : Byte) (payload : List Byte) :
    trunkCommand 32 (tag :: code :: payload) (trunkCrc 32 (tag :: code :: payload)) = .request tag code payload :=
  if_pos ⟨rfl, rfl⟩

/-- The bytes of the inbound trunk side, with enough fuel, are the requests of their frames. -/
theorem receiveTrunkFrom_frames {frames : List (List Byte × Byte × Byte × List Byte)} {fuel : Nat}
    (h : ∀ f ∈ frames, noSync 90 195 f.1 ∧ f.2.2.2.length ≤ 1024)
    (enough : (frames.flatMap fun f => f.1 ++ trunkFrame 32 (f.2.1 :: f.2.2.1 :: f.2.2.2)).length ≤ fuel) :
    receiveTrunkFrom fuel (frames.flatMap fun f => f.1 ++ trunkFrame 32 (f.2.1 :: f.2.2.1 :: f.2.2.2))
      = frames.map fun f => Instr.request f.2.1 f.2.2.1 f.2.2.2 := by
  induction frames generalizing fuel with
  | nil => exact receiveTrunkFrom_nil fuel
  | cons f later ih =>
    obtain ⟨clear, size⟩ := h f (List.mem_cons_self ..)
    rw [List.flatMap_cons, List.append_assoc] at enough ⊢
    have frame : 0 < (trunkFrame 32 (f.2.1 :: f.2.2.1 :: f.2.2.2)).length := by simp [trunkFrame]
    simp only [List.length_append] at enough
    obtain ⟨more, rfl⟩ := Nat.exists_eq_add_of_le (show f.1.length + 1 ≤ fuel by omega)
    rw [Nat.add_assoc, receiveTrunkFrom_search clear rfl, Nat.add_comm 1, receiveTrunkFrom_frame (by simp; omega),
      trunkCommand_request, ih (fun x hx => h x (List.mem_cons_of_mem f hx)) (by omega), List.map_cons]

/-- Settles O13. -/
theorem framesReadBack : Obligations.FramesReadBack := by
  refine ⟨fun p frames h => ?_, fun frames h => receiveTrunkFrom_frames h le_rfl⟩
  rw [receiveHead, receiveHeadFrom_frames p h le_rfl]
  simp only [headCommand_eq]

end Sys2Proof.Machine

/-! The intrusion runs of a profile (R133, R134): what a visit finds, in the positions of the visit. -/

namespace Sys2Proof.Machine

/-! ### A run over positions of the visit -/

/-- The run `r` begins at position `k` of a visit: its sectors, its depth and its deepest sector (R134). -/
structure Spans (w : Nat → AssessedSector) (k : Nat) (r : IntrusionRun) : Prop where
  positive : 1 ≤ r.count
  first : r.first = (w k).sector
  last : r.last = (w (k + r.count - 1)).sector
  intruding : ∀ i < r.count, intrudes (w (k + i)) = true ∧ shortfall (w (k + i)) ≤ r.depth
  deepest : ∃ i < r.count, r.deepest = (w (k + i)).sector ∧ shortfall (w (k + i)) = r.depth
    ∧ r.deepestRadius = (w (k + i)).acc.minRadius.getD 0 ∧ ∀ i' < i, shortfall (w (k + i')) < r.depth

section
variable {w : Nat → AssessedSector} {N k : Nat} {r : IntrusionRun} {l : List IntrusionRun}

theorem spans_start (h : intrudes (w k) = true) : Spans w k (extendRun none (w k)) where
  positive := le_rfl
  first := rfl
  last := rfl
  intruding := fun i hi => by
    obtain rfl : i = 0 := Nat.lt_one_iff.mp hi
    exact ⟨h, le_rfl⟩
  deepest := ⟨0, Nat.one_pos, rfl, rfl, rfl, nofun⟩

@[simp] theorem extendRun_count (r : IntrusionRun) (a : AssessedSector) : (extendRun (some r) a).count = r.count + 1 := by
  unfold extendRun
  dsimp only
  split <;> rfl

theorem spans_extend (h : Spans w k r) (next : intrudes (w (k + r.count)) = true) :
    Spans w k (extendRun (some r) (w (k + r.count))) := by
  obtain ⟨positive, first, last, intruding, i, below, place, depth, radius, earlier⟩ := h
  have cases' (P : Nat → Prop) (old : ∀ i < r.count, P i) (new : P r.count) : ∀ i < r.count + 1, P i := fun i hi =>
    (Nat.lt_succ_iff_lt_or_eq.mp hi).elim (old i) fun e => e ▸ new
  unfold extendRun
  dsimp only
  split_ifs with deeper
  · exact ⟨Nat.succ_pos _, first, rfl,
      cases' _ (fun j hj => ⟨(intruding j hj).1, (intruding j hj).2.trans deeper.le⟩) ⟨next, le_rfl⟩,
      r.count, Nat.lt_succ_self _, rfl, rfl, rfl, fun j hj => (intruding j hj).2.trans_lt deeper⟩
  · exact ⟨Nat.succ_pos _, first, rfl, cases' _ intruding ⟨next, Nat.not_lt.mp deeper⟩,
      i, Nat.lt_succ_of_lt below, place, depth, radius, earlier⟩

/-! ### The runs of a visit -/

/-- The runs of a visit of `N` positions from position `k` on: each as long as it can be, none missed. -/
inductive RunList (w : Nat → AssessedSector) (N : Nat) : Nat → List IntrusionRun → Prop where
  | nil {k : Nat} : (∀ x, k ≤ x → x < N → intrudes (w x) = false) → RunList w N k []
  | cons {k i : Nat} {r : IntrusionRun} {l : List IntrusionRun} : k ≤ i → (∀ x, k ≤ x → x < i → intrudes (w x) = false) →
      (i = 0 ∨ intrudes (w (i - 1)) = false) → Spans w i r → i + r.count ≤ N →
      (i + r.count = N ∨ intrudes (w (i + r.count)) = false) → RunList w N (i + r.count) l → RunList w N k (r :: l)

/-- A position that does not intrude belongs to no run. -/
theorem RunList.skip (h : RunList w N (k + 1) l) (off : intrudes (w k) = false) : RunList w N k l := by
  have front {x : Nat} (le : k ≤ x) (later : k + 1 ≤ x → intrudes (w x) = false) : intrudes (w x) = false := by
    rcases Nat.eq_or_lt_of_le le with rfl | lt
    exacts [off, later lt]
  cases h with
  | nil none => exact .nil fun x le lt => front le fun later => none x later lt
  | cons le none before spans within after rest =>
    exact .cons (Nat.le_of_succ_le le) (fun x le lt => front le fun later => none x later lt) before spans within after rest

/-- A visit from a position on finds the runs from there on. -/
theorem runsFrom_runList {m : Nat} (total : k + m = N) :
    ((k = 0 ∨ intrudes (w (k - 1)) = false) → RunList w N k (runsFrom none ((List.range' k m).map w)))
      ∧ ∀ j r, j + r.count = k → (j = 0 ∨ intrudes (w (j - 1)) = false) → Spans w j r →
        RunList w N j (runsFrom (some r) ((List.range' k m).map w)) := by
  induction m generalizing k with
  | zero =>
    have ending : k = N := total
    refine ⟨fun _ => .nil fun x le lt => by omega, fun j r here before spans => ?_⟩
    exact .cons le_rfl (fun x le lt => by omega) before spans (by omega) (.inl (here.trans ending)) (.nil fun x le lt => by omega)
  | succ m ih =>
    obtain ⟨fresh, current⟩ := ih (k := k + 1) (by omega)
    rw [List.range'_succ, List.map_cons]
    unfold runsFrom
    cases on : intrudes (w k) with
    | true =>
      refine ⟨fun before => ?_, fun j r here before spans => ?_⟩
      · exact current k _ rfl before (spans_start on)
      · subst here
        exact current j _ (by rw [extendRun_count, Nat.add_assoc]) before (spans_extend spans on)
    | false =>
      have rest : RunList w N k (runsFrom none ((List.range' (k + 1) m).map w)) := (fresh (.inr on)).skip on
      refine ⟨fun _ => rest, fun j r here before spans => ?_⟩
      subst here
      exact .cons le_rfl (fun x le lt => by omega) before spans (by omega) (.inr on) rest

/-! ### What a list of runs says -/

/-- A run that is as long as it can be, at a position of the visit. -/
structure Maximal (w : Nat → AssessedSector) (N i : Nat) (r : IntrusionRun) : Prop where
  spans : Spans w i r
  within : i + r.count ≤ N
  before : i = 0 ∨ intrudes (w (i - 1)) = false
  after : i + r.count = N ∨ intrudes (w (i + r.count)) = false

theorem RunList.maximal (h : RunList w N k l) : ∀ r ∈ l, ∃ i, k ≤ i ∧ Maximal w N i r := by
  induction h with
  | nil => exact fun r hr => absurd hr List.not_mem_nil
  | cons le none before spans within after rest ih =>
    refine List.forall_mem_cons.mpr ⟨⟨_, le, spans, within, before, after⟩, fun x hx => ?_⟩
    obtain ⟨i, le', maximal⟩ := ih x hx
    exact ⟨i, by omega, maximal⟩

/-- Behind a run the next one does not begin at once. -/
theorem Maximal.gap {i i' : Nat} {r r' : IntrusionRun} (after : i + r.count = N ∨ intrudes (w (i + r.count)) = false)
    (le : i + r.count ≤ i') (next : Maximal w N i' r') : i + r.count < i' := by
  have within := next.within
  have positive := next.spans.positive
  refine lt_of_le_of_ne le fun e => ?_
  rcases after with ending | off
  · omega
  · have on := (next.spans.intruding 0 positive).1
    rw [Nat.add_zero, ← e, off] at on
    exact Bool.false_ne_true on

/-- The runs stand in the order of the visit, with a gap between them. -/
theorem RunList.ordered (h : RunList w N k l) :
    l.Pairwise fun r r' => ∃ i i', Maximal w N i r ∧ Maximal w N i' r' ∧ i + r.count < i' := by
  induction h with
  | nil => exact .nil
  | cons le none before spans within after rest ih =>
    refine .cons (fun x hx => ?_) ih
    obtain ⟨i', le', maximal⟩ := rest.maximal x hx
    exact ⟨_, i', ⟨spans, within, before, after⟩, maximal, maximal.gap after le'⟩

/-- Every intruding position lies in a run. -/
theorem RunList.covers (h : RunList w N k l) :
    ∀ x, k ≤ x → x < N → intrudes (w x) = true → ∃ r ∈ l, ∃ i, Maximal w N i r ∧ i ≤ x ∧ x < i + r.count := by
  induction h with
  | nil none =>
    intro x le lt on
    rw [none x le lt] at on
    exact absurd on Bool.false_ne_true
  | @cons k i r l le none before spans within after rest ih =>
    intro x here lt on
    rcases Nat.lt_or_ge x i with early | late
    · rw [none x here early] at on
      exact absurd on Bool.false_ne_true
    · rcases Nat.lt_or_ge x (i + r.count) with inside | behind
      · exact ⟨r, List.mem_cons_self .., i, ⟨spans, within, before, after⟩, late, inside⟩
      · obtain ⟨r', mem, found⟩ := ih x behind lt on
        exact ⟨r', List.mem_cons_of_mem r mem, found⟩

/-- The counts of the runs are the intruding positions. -/
theorem RunList.sum_count (h : RunList w N k l) :
    (l.map IntrusionRun.count).sum = (List.range' k (N - k)).countP fun x => intrudes (w x) := by
  have split {k i : Nat} (le : k ≤ i) (within : i ≤ N) :
      List.range' k (N - k) = List.range' k (i - k) ++ List.range' i (N - i) := by
    have joined := List.range'_append (s := k) (m := i - k) (n := N - i) (step := 1)
    rw [Nat.one_mul, Nat.add_sub_cancel' le, show i - k + (N - i) = N - k by omega] at joined
    exact joined.symm
  induction h with
  | nil none =>
    symm
    rw [List.map_nil, List.sum_nil, List.countP_eq_zero]
    intro x hx
    obtain ⟨le, lt⟩ := List.mem_range'_1.mp hx
    rw [none x le (by omega)]
    exact Bool.false_ne_true
  | @cons k i r l le none before spans within after rest ih =>
    have before' : (List.range' k (i - k)).countP (fun x => intrudes (w x)) = 0 := by
      rw [List.countP_eq_zero]
      intro x hx
      obtain ⟨lo, hi⟩ := List.mem_range'_1.mp hx
      rw [none x lo (by omega)]
      exact Bool.false_ne_true
    have inside : (List.range' i r.count).countP (fun x => intrudes (w x)) = r.count := by
      refine (List.countP_eq_length.mpr fun x hx => ?_).trans (List.length_range' ..)
      obtain ⟨lo, hi⟩ := List.mem_range'_1.mp hx
      obtain ⟨d, rfl⟩ := Nat.exists_eq_add_of_le lo
      exact (spans.intruding d (by omega)).1
    rw [List.map_cons, List.sum_cons, ih, split le (by omega), split (Nat.le_add_right i r.count) within,
      Nat.add_sub_cancel_left, List.countP_append, List.countP_append, before', inside, Nat.zero_add]

/-- Each run takes a position, and each but the last one more. -/
theorem RunList.length_le (h : RunList w N k l) :
    2 * l.length ≤ N - k + 1 ∧ (intrudes (w k) = false → 2 * l.length ≤ N - k) := by
  induction h with
  | nil => simp
  | @cons k i r l le none before spans within after rest ih =>
    have positive := spans.positive
    have behind : 2 * l.length ≤ N - (i + r.count) := by
      rcases after with ending | off
      · have := ih.1
        omega
      · exact ih.2 off
    rw [List.length_cons]
    refine ⟨by omega, fun off => ?_⟩
    have moved : i ≠ k := by
      rintro rfl
      have on := (spans.intruding 0 positive).1
      rw [Nat.add_zero, off] at on
      exact Bool.false_ne_true on
    omega

/-- Where every position intrudes there is one run. -/
theorem RunList.of_all (h : RunList w N 0 l) (some : 0 < N) (all : ∀ x < N, intrudes (w x) = true) :
    ∃ r, l = [r] ∧ Maximal w N 0 r ∧ r.count = N := by
  cases h with
  | nil none =>
    have off := none 0 le_rfl some
    rw [all 0 some] at off
    exact absurd off Bool.true_eq_false.mp
  | @cons _ i r l le none before spans within after rest =>
    have positive := spans.positive
    obtain rfl : i = 0 := by
      by_contra late
      have off := none 0 le_rfl (by omega)
      rw [all 0 some] at off
      exact Bool.true_eq_false.mp off
    have whole : 0 + r.count = N := by
      rcases after with ending | off
      · exact ending
      · by_contra short
        rw [all _ (by omega)] at off
        exact Bool.true_eq_false.mp off
    refine ⟨r, ?_, ⟨spans, within, before, after⟩, by omega⟩
    rw [whole] at rest
    cases rest with
    | nil => rfl
    | cons le' _ _ spans' within' =>
      have := spans'.positive
      omega

end

/-! ### The visit -/

theorem assessSector_sector (p : RunParams) (copy : RouteCopy) (limit s : Nat) (acc : SectorAcc) :
    (assessSector p copy limit s acc).sector = s := by
  unfold assessSector
  split
  · rfl
  · split <;> rfl

theorem sector_of_getElem? {p : RunParams} {rm : RouteMap} {ctx : Context} {i : Nat} {a : AssessedSector}
    (h : (assessSectors p rm ctx)[i]? = some a) : a.sector = i := by
  unfold assessSectors at h
  dsimp only at h
  rw [List.getElem?_map, Option.map_eq_some_iff] at h
  obtain ⟨s, hs, rfl⟩ := h
  rw [assessSector_sector]
  exact (List.getElem?_eq_some_iff.mp hs).2.symm.trans (List.getElem_range _)

/-- The sector at a position of the visit that begins at sector `b`. -/
def visited (sectors : List AssessedSector) (b n : Nat) : AssessedSector := (sectors[(b + n) % 128]?).getD ⟨0, .void, none, {}⟩

section
variable {sectors : List AssessedSector} {b : Nat}

theorem visited_eq (size : sectors.length = 128) (n : Nat) : sectors[(b + n) % 128]? = some (visited sectors b n) := by
  have below : (b + n) % 128 < sectors.length := by omega
  rw [visited, List.getElem?_eq_getElem below]
  rfl

/-- The visit goes round from a sector. -/
theorem visit_eq (size : sectors.length = 128) (hb : b ≤ 128) :
    sectors.drop b ++ sectors.take b = (List.range' 0 128).map (visited sectors b) := by
  rw [← List.rotate_eq_drop_append_take (by omega)]
  refine List.ext_getElem? fun n => ?_
  rw [List.getElem?_map]
  rcases Nat.lt_or_ge n 128 with below | beyond
  · rw [List.getElem?_rotate (by omega), size, Nat.add_comm n, visited_eq size, List.getElem?_range' below, Nat.zero_add,
      Nat.one_mul]
    rfl
  · rw [List.getElem?_eq_none (by simp [size, beyond]), List.getElem?_eq_none (by simp [beyond])]
    rfl

/-- The runs that a visit from sector `b` finds. -/
theorem runsFrom_visit (size : sectors.length = 128) (hb : b ≤ 128) :
    RunList (visited sectors b) 128 0 (runsFrom none (sectors.drop b ++ sectors.take b)) := by
  rw [visit_eq size hb]
  exact (runsFrom_runList (k := 0) (m := 128) rfl).1 (.inl rfl)

/-- The sector at which the visit begins: the one after the search start, or sector 0. -/
def visitStart (sectors : List AssessedSector) : Nat := ((searchStart sectors).map (· + 1)).getD 0

theorem visitStart_le (size : sectors.length = 128) : visitStart sectors ≤ 128 := by
  unfold visitStart
  cases e : searchStart sectors with
  | none => exact Nat.zero_le _
  | some f =>
    obtain ⟨below, -⟩ := List.findIdx?_eq_some_iff_getElem.mp e
    simp only [Option.map_some, Option.getD_some]
    omega

theorem intrusionRuns_runList (size : sectors.length = 128) :
    RunList (visited sectors (visitStart sectors)) 128 0 (intrusionRuns sectors) := by
  have found := runsFrom_visit size (visitStart_le size)
  unfold intrusionRuns visitStart at *
  cases e : searchStart sectors with
  | none =>
    rw [e] at found
    simpa using found
  | some f =>
    rw [e] at found
    exact found

end

/-! ### The runs in the sectors of the ring -/

theorem intrudes_iff (a : AssessedSector) : intrudes a = true ↔ a.cls = .intrusion := beq_iff_eq

theorem intrudes_eq_false_iff (a : AssessedSector) : intrudes a = false ↔ a.cls ≠ .intrusion := beq_eq_false_iff_ne

/-- Every sector stands at its own index of the ring. -/
def Numbered (sectors : List AssessedSector) : Prop := ∀ (i : Nat) (a : AssessedSector), sectors[i]? = some a → a.sector = i

theorem assessSectors_numbered (p : RunParams) (rm : RouteMap) (ctx : Context) : Numbered (assessSectors p rm ctx) :=
  fun _ _ => sector_of_getElem?

theorem assessSectors_length (p : RunParams) (rm : RouteMap) (ctx : Context) : (assessSectors p rm ctx).length = 128 := by
  simp [assessSectors, sectorCount]

section
variable {sectors : List AssessedSector} {b : Nat}

theorem visited_sector (size : sectors.length = 128) (numbered : Numbered sectors) (n : Nat) :
    (visited sectors b n).sector = (b + n) % 128 :=
  numbered _ _ (visited_eq size n)

/-- The sector `m` places on in the ring from the sector at position `i` of the visit. -/
theorem sector_on (size : sectors.length = 128) {x i m : Nat} (hx : x = (b + i) % 128) :
    sectors[(x + m) % 128]? = some (visited sectors b (i + m)) := by
  rw [← visited_eq size, show (x + m) % 128 = (b + (i + m)) % 128 by omega]

/-- What R134 says of a run, in the sectors of the ring. -/
theorem Maximal.ring {i : Nat} {r : IntrusionRun} (size : sectors.length = 128) (numbered : Numbered sectors)
    (h : Maximal (visited sectors b) 128 i r) :
    r.first = (b + i) % 128 ∧ r.last = (r.first + r.count - 1) % 128
      ∧ (∀ j < r.count, ∃ a, sectors[(r.first + j) % 128]? = some a ∧ a.cls = .intrusion ∧ shortfall a ≤ r.depth)
      ∧ ∃ j < r.count, r.deepest = (r.first + j) % 128
        ∧ ∃ a, sectors[(r.first + j) % 128]? = some a ∧ shortfall a = r.depth
          ∧ r.deepestRadius = a.acc.minRadius.getD 0
          ∧ ∀ j' < j, ∃ c, sectors[(r.first + j') % 128]? = some c ∧ shortfall c < r.depth := by
  obtain ⟨positive, first, last, intruding, j, below, place, depth, radius, earlier⟩ := h.spans
  rw [visited_sector size numbered] at first last place
  refine ⟨first, by omega, fun m hm => ?_, j, below, by omega, _, sector_on size first, depth, radius, fun m hm => ?_⟩
  · exact ⟨_, sector_on size first, (intrudes_iff _).mp (intruding m hm).1, (intruding m hm).2⟩
  · exact ⟨_, sector_on size first, earlier m hm⟩

/-! ### The visit from the search start -/

theorem searchStart_some {f : Nat} (h : searchStart sectors = some f) :
    (∃ a, sectors[f]? = some a ∧ intrudes a = false) ∧ ∀ x < f, ∃ a, sectors[x]? = some a ∧ intrudes a = true := by
  obtain ⟨below, off, earlier⟩ := List.findIdx?_eq_some_iff_getElem.mp h
  refine ⟨⟨_, List.getElem?_eq_getElem below, by simpa using off⟩, fun x hx => ?_⟩
  exact ⟨_, List.getElem?_eq_getElem (hx.trans below), by simpa using earlier x hx⟩

theorem searchStart_none (h : searchStart sectors = none) : ∀ a ∈ sectors, intrudes a = true := fun a ha => by
  simpa using List.findIdx?_eq_none_iff.mp h a ha

theorem visitStart_of_some {f : Nat} (h : searchStart sectors = some f) : visitStart sectors = f + 1 := by
  rw [visitStart, h]
  rfl

theorem visitStart_of_none (h : searchStart sectors = none) : visitStart sectors = 0 := by
  rw [visitStart, h]
  rfl

/-- The visit ends with the search start. -/
theorem visited_last (size : sectors.length = 128) {f : Nat} (h : searchStart sectors = some f) :
    f < 128 ∧ intrudes (visited sectors (f + 1) 127) = false := by
  obtain ⟨⟨a, here, off⟩, -⟩ := searchStart_some h
  have below : f < 128 := size ▸ (List.getElem?_eq_some_iff.mp here).1
  have seen := visited_eq (b := f + 1) size 127
  rw [show (f + 1 + 127) % 128 = f by omega, here] at seen
  exact ⟨below, Option.some.inj seen ▸ off⟩

/-- No run reaches the search start, and both its neighbours are out of it. -/
theorem Maximal.neighbours {f i : Nat} {r : IntrusionRun} (size : sectors.length = 128) (numbered : Numbered sectors)
    (start : searchStart sectors = some f) (h : Maximal (visited sectors (f + 1)) 128 i r) :
    i + r.count ≤ 127
      ∧ (∃ a, sectors[(r.first + 127) % 128]? = some a ∧ a.cls ≠ .intrusion)
      ∧ ∃ a, sectors[(r.last + 1) % 128]? = some a ∧ a.cls ≠ .intrusion := by
  obtain ⟨below, off⟩ := visited_last size start
  obtain ⟨first, last, -⟩ := h.ring size numbered
  have positive := h.spans.positive
  have within := h.within
  have short : i + r.count ≤ 127 := by
    by_contra reaching
    have on := (h.spans.intruding (r.count - 1) (by omega)).1
    rw [show i + (r.count - 1) = 127 by omega, off] at on
    exact Bool.false_ne_true on
  refine ⟨short, ?_, ⟨_, ?_, (intrudes_eq_false_iff _).mp (h.after.resolve_left (by omega))⟩⟩
  · rcases h.before with zero | out
    · rw [first, zero, show ((f + 1 + 0) % 128 + 127) % 128 = (f + 1 + 127) % 128 by omega, visited_eq size]
      exact ⟨_, rfl, (intrudes_eq_false_iff _).mp off⟩
    · rcases Nat.eq_zero_or_pos i with zero | later
      · rw [first, zero, show ((f + 1 + 0) % 128 + 127) % 128 = (f + 1 + 127) % 128 by omega, visited_eq size]
        exact ⟨_, rfl, (intrudes_eq_false_iff _).mp off⟩
      · rw [first, show ((f + 1 + i) % 128 + 127) % 128 = (f + 1 + (i - 1)) % 128 by omega, visited_eq size]
        exact ⟨_, rfl, (intrudes_eq_false_iff _).mp out⟩
  · rw [last, show ((r.first + r.count - 1) % 128 + 1) % 128 = (f + 1 + (i + r.count)) % 128 by omega, visited_eq size]

/-- The position of a sector in the visit from after the search start `f`. -/
def visitPlace (f x : Nat) : Nat := (x + 127 - f) % 128

theorem intrusionRuns_pairwise {f : Nat} (size : sectors.length = 128) (numbered : Numbered sectors)
    (start : searchStart sectors = some f) :
    (intrusionRuns sectors).Pairwise fun r r' => visitPlace f r.first + r.count < visitPlace f r'.first := by
  have listed := intrusionRuns_runList size
  rw [visitStart_of_some start] at listed
  obtain ⟨below, -⟩ := visited_last size start
  refine listed.ordered.imp ?_
  rintro r r' ⟨i, i', maximal, maximal', before⟩
  obtain ⟨first, -⟩ := maximal.ring size numbered
  obtain ⟨first', -⟩ := maximal'.ring size numbered
  have := (maximal.neighbours size numbered start).1
  have := (maximal'.neighbours size numbered start).1
  unfold visitPlace
  omega

/-- Two members of an ordered list stand in its order one way or the other. -/
theorem or_of_pairwise {α : Type} {R : α → α → Prop} {l : List α} (ordered : l.Pairwise R) {x y : α} (hx : x ∈ l) (hy : y ∈ l)
    (ne : x ≠ y) : R x y ∨ R y x :=
  haveI : Std.Symm fun x y => R x y ∨ R y x := ⟨fun _ _ => Or.symm⟩
  (ordered.imp Or.inl : l.Pairwise fun x y => R x y ∨ R y x).forall hx hy ne

/-- Every INTRUSION sector lies in exactly one run. -/
theorem existsUnique_run {f x : Nat} (size : sectors.length = 128) (numbered : Numbered sectors)
    (start : searchStart sectors = some f) (hx : x < 128) (on : ∃ a, sectors[x]? = some a ∧ a.cls = .intrusion) :
    ∃! r, r ∈ intrusionRuns sectors ∧ ∃ i < r.count, x = (r.first + i) % 128 := by
  have listed := intrusionRuns_runList size
  rw [visitStart_of_some start] at listed
  obtain ⟨below, -⟩ := visited_last size start
  have seen := visited_eq (b := f + 1) size (visitPlace f x)
  rw [show (f + 1 + visitPlace f x) % 128 = x by unfold visitPlace; omega] at seen
  have met : intrudes (visited sectors (f + 1) (visitPlace f x)) = true := by
    obtain ⟨a, here, cls⟩ := on
    exact (intrudes_iff _).mpr (Option.some.inj (seen.symm.trans here) ▸ cls)
  obtain ⟨r, mem, i, maximal, le, lt⟩ :=
    listed.covers (visitPlace f x) (Nat.zero_le _) (Nat.mod_lt _ (by decide)) met
  have first := (maximal.ring size numbered).1
  have short := (maximal.neighbours size numbered start).1
  have at_place : visitPlace f x = (x + 127 - f) % 128 := rfl
  refine ⟨r, ⟨mem, visitPlace f x - i, by omega, by omega⟩, ?_⟩
  rintro r' ⟨mem', j, hj, at_j⟩
  obtain ⟨i', -, maximal'⟩ := listed.maximal r' mem'
  have first' := (maximal'.ring size numbered).1
  have short' := (maximal'.neighbours size numbered start).1
  by_contra other
  have apart := or_of_pairwise (intrusionRuns_pairwise size numbered start) mem' mem other
  unfold visitPlace at apart
  omega

/-- The counts of the runs are the INTRUSION sectors. -/
theorem intrusionRuns_sum (size : sectors.length = 128) :
    ((intrusionRuns sectors).map IntrusionRun.count).sum = classCount .intrusion sectors := by
  rw [(intrusionRuns_runList size).sum_count]
  calc (List.range' 0 (128 - 0)).countP (fun x => intrudes (visited sectors (visitStart sectors) x))
      = (sectors.drop (visitStart sectors) ++ sectors.take (visitStart sectors)).countP intrudes := by
        rw [visit_eq size (visitStart_le size), List.countP_map]
        rfl
    _ = (sectors.take (visitStart sectors) ++ sectors.drop (visitStart sectors)).countP intrudes :=
        List.perm_append_comm.countP_eq _
    _ = classCount .intrusion sectors := by
        rw [List.take_append_drop]
        rfl

end

/-! ### The greatest depth and the least margin -/

theorem maxDepthOf_eq_none {l : List IntrusionRun} : maxDepthOf l = none ↔ l = [] := by
  cases l <;> simp [maxDepthOf]

theorem maxDepthOf_spec {l : List IntrusionRun} {d : Nat} (h : maxDepthOf l = some d) :
    (∃ r ∈ l, r.depth = d) ∧ ∀ r ∈ l, r.depth ≤ d := by
  induction l generalizing d with
  | nil => cases h
  | cons r rest ih =>
    obtain rfl := Option.some.inj h
    cases e : maxDepthOf rest with
    | none =>
      obtain rfl := maxDepthOf_eq_none.mp e
      simp
    | some d' =>
      obtain ⟨⟨q, mem, depth⟩, greatest⟩ := ih e
      rw [Option.getD_some]
      refine ⟨?_, List.forall_mem_cons.mpr ⟨le_max_left .., fun x hx => (greatest x hx).trans (le_max_right ..)⟩⟩
      rcases le_total d' r.depth with le | le
      · exact ⟨r, List.mem_cons_self .., (max_eq_left le).symm⟩
      · exact ⟨q, List.mem_cons_of_mem r mem, depth.trans (max_eq_right le).symm⟩

theorem maxDepthOf_eq_some {l : List IntrusionRun} {d : Nat} :
    maxDepthOf l = some d ↔ (∃ r ∈ l, r.depth = d) ∧ ∀ r ∈ l, r.depth ≤ d := by
  refine ⟨maxDepthOf_spec, ?_⟩
  rintro ⟨⟨r, mem, rfl⟩, greatest⟩
  cases e : maxDepthOf l with
  | none =>
    obtain rfl := maxDepthOf_eq_none.mp e
    exact absurd mem List.not_mem_nil
  | some d =>
    obtain ⟨⟨q, mem', rfl⟩, greatest'⟩ := maxDepthOf_spec e
    rw [le_antisymm (greatest q mem') (greatest' r mem)]

/-- The least margin `m` of a list, with `i` the first index that has it (R132). -/
structure LeastAt (l : List AssessedSector) (i : Nat) (m : Int) : Prop where
  here : ∃ a, l[i]? = some a ∧ a.margin = some m
  least : ∀ b ∈ l, ∀ n, b.margin = some n → m ≤ n
  earlier : ∀ j < i, ∀ b, l[j]? = some b → b.margin ≠ some m

theorem LeastAt.unique {l : List AssessedSector} {i i' : Nat} {m m' : Int} (h : LeastAt l i m) (h' : LeastAt l i' m') :
    i = i' ∧ m = m' := by
  obtain ⟨⟨a, here, margin⟩, least, earlier⟩ := h
  obtain ⟨⟨a', here', margin'⟩, least', earlier'⟩ := h'
  obtain rfl : m = m' := le_antisymm (least a' (List.mem_of_getElem? here') m' margin')
    (least' a (List.mem_of_getElem? here) m margin)
  refine ⟨?_, rfl⟩
  rcases Nat.lt_trichotomy i i' with lt | rfl | lt
  · exact absurd margin (earlier' i lt a here)
  · rfl
  · exact absurd margin' (earlier i' lt a' here')

theorem LeastAt.cons {l : List AssessedSector} {i : Nat} {m : Int} (h : LeastAt l i m) {a : AssessedSector}
    (greater : ∀ n, a.margin = some n → m < n) : LeastAt (a :: l) (i + 1) m where
  here := h.here
  least := List.forall_mem_cons.mpr ⟨fun n hn => (greater n hn).le, h.least⟩
  earlier := fun j hj b hb e => by
    cases j with
    | zero =>
      cases hb
      exact (greater m e).false
    | succ j => exact h.earlier j (by omega) b hb e

theorem leastAt_head {l : List AssessedSector} {a : AssessedSector} {m : Int} (here : a.margin = some m)
    (least : ∀ b ∈ l, ∀ n, b.margin = some n → m ≤ n) : LeastAt (a :: l) 0 m where
  here := ⟨a, rfl, here⟩
  least := List.forall_mem_cons.mpr ⟨fun _ hn => (Option.some.inj (here.symm.trans hn)).le, least⟩
  earlier := nofun

theorem leastMargin_eq_none {l : List AssessedSector} : leastMargin l = none ↔ ∀ a ∈ l, a.margin = none := by
  induction l with
  | nil => simp [leastMargin]
  | cons a rest ih =>
    rw [List.forall_mem_cons, ← ih, leastMargin]
    cases a.margin with
    | none => simp
    | some m =>
      cases leastMargin rest with
      | none => simp
      | some r =>
        dsimp only
        split <;> simp

theorem leastMargin_spec {l : List AssessedSector} {m : Int} {x : Nat} (h : leastMargin l = some (m, x)) :
    ∃ i, LeastAt l i m ∧ ∃ a, l[i]? = some a ∧ a.sector = x := by
  induction l generalizing m x with
  | nil => cases h
  | cons a rest ih =>
    rw [leastMargin] at h
    cases margin : a.margin with
    | none =>
      rw [margin] at h
      obtain ⟨i, least, sector⟩ := ih h
      exact ⟨i + 1, least.cons (by simp [margin]), sector⟩
    | some n =>
      cases behind : leastMargin rest with
      | none =>
        rw [margin, behind] at h
        cases h
        refine ⟨0, leastAt_head margin fun b hb n' hn => ?_, a, rfl, rfl⟩
        rw [leastMargin_eq_none.mp behind b hb] at hn
        cases hn
      | some r =>
        rw [margin, behind] at h
        dsimp only at h
        obtain ⟨i, least, sector⟩ := ih (m := r.1) (x := r.2) behind
        split_ifs at h with lt
        · cases h
          refine ⟨i + 1, least.cons fun n' hn => ?_, sector⟩
          rw [margin] at hn
          cases hn
          exact lt
        · cases h
          exact ⟨0, leastAt_head margin fun b hb n' hn => (not_lt.mp lt).trans (least.least b hb n' hn), a, rfl, rfl⟩

theorem leastMargin_eq_some {l : List AssessedSector} (numbered : Numbered l) {m : Int} {x : Nat} :
    leastMargin l = some (m, x) ↔ LeastAt l x m := by
  refine ⟨fun h => ?_, fun h => ?_⟩
  · obtain ⟨i, least, a, here, rfl⟩ := leastMargin_spec h
    exact numbered i a here ▸ least
  · cases e : leastMargin l with
    | none =>
      obtain ⟨a, here, margin⟩ := h.here
      rw [leastMargin_eq_none.mp e a (List.mem_of_getElem? here)] at margin
      cases margin
    | some r =>
      obtain ⟨i, least, a, here, sector⟩ := leastMargin_spec (m := r.1) (x := r.2) e
      obtain ⟨rfl, rfl⟩ := h.unique least
      exact congrArg some (Prod.ext rfl (sector.symm.trans (numbered _ a here)))

/-- Settles O25: the runs are those of one visit of the ring, read back in the sectors. -/
theorem Claims.intrusionRuns : Obligations.IntrusionRuns := by
  intro p rm ctx sectors runs
  have size : sectors.length = 128 := assessSectors_length p rm ctx
  have numbered : Numbered sectors := assessSectors_numbered p rm ctx
  have listed : RunList (visited sectors (visitStart sectors)) 128 0 runs := intrusionRuns_runList size
  have count := listed.length_le.1
  refine ⟨intrusionRuns_sum size, by omega, fun r hr => ?_, fun f start => ⟨?_, ?_, ?_, ?_, fun r hr => ?_⟩,
    fun start => ?_, maxDepthOf_eq_none, fun d => maxDepthOf_eq_some, leastMargin_eq_none, fun m x => ?_⟩
  · obtain ⟨i, -, maximal⟩ := listed.maximal r hr
    obtain ⟨first, facts⟩ := maximal.ring size numbered
    have within := maximal.within
    exact ⟨maximal.spans.positive, by omega, by omega, facts⟩
  · obtain ⟨⟨a, here, off⟩, -⟩ := searchStart_some start
    exact ⟨a, here, (intrudes_eq_false_iff a).mp off⟩
  · intro x hx
    obtain ⟨a, here, on⟩ := (searchStart_some start).2 x hx
    exact ⟨a, here, (intrudes_iff a).mp on⟩
  · exact fun x hx on => existsUnique_run size numbered start hx on
  · exact intrusionRuns_pairwise size numbered start
  · rw [visitStart_of_some start] at listed
    obtain ⟨i, -, maximal⟩ := listed.maximal r hr
    exact (maximal.neighbours size numbered start).2
  · have all := searchStart_none start
    rw [visitStart_of_none start] at listed
    refine ⟨fun x hx => ?_, ?_⟩
    · exact ⟨_, List.getElem?_eq_getElem (hx.trans_eq size.symm), (intrudes_iff _).mp (all _ (List.getElem_mem _))⟩
    · obtain ⟨r, single, maximal, whole⟩ := listed.of_all (by decide) fun x _ =>
        all _ (List.mem_of_getElem? (visited_eq size x))
      obtain ⟨first, last, -⟩ := maximal.ring size numbered
      exact ⟨r, single, by omega, by omega, whole⟩
  · rw [leastMargin_eq_some numbered]
    exact ⟨fun h => ⟨h.here, h.least, h.earlier⟩, fun ⟨here, least, earlier⟩ => ⟨here, least, earlier⟩⟩

end Sys2Proof.Machine

/-! A marker detection: the marker chosen (R73), the match and the recalibration (R74, R75). -/

namespace Sys2Proof.Machine

/-! ### The nearest marker -/

/-- Of the markers of a list, none is nearer to `x` than `m`, and of those as near `m` is the one on the side asked for. -/
def NearestIn (x : Int) (higher : Bool) (l : List Marker) (m : Marker) : Prop :=
  ∀ n ∈ l, (m.position - x).natAbs ≤ (n.position - x).natAbs
    ∧ ((n.position - x).natAbs = (m.position - x).natAbs → n.position ≠ m.position →
      decide (n.position < m.position) = higher)

theorem nearestMarker_spec {x : Int} {higher : Bool} {l : List Marker} {m : Marker} (h : nearestMarker x higher l = some m) :
    m ∈ l ∧ NearestIn x higher l m := by
  induction l generalizing m with
  | nil => cases h
  | cons a rest ih =>
    have self (k : Marker) : (k.position - x).natAbs ≤ (k.position - x).natAbs
        ∧ ((k.position - x).natAbs = (k.position - x).natAbs → k.position ≠ k.position →
          decide (k.position < k.position) = higher) := ⟨le_rfl, fun _ ne => absurd rfl ne⟩
    unfold nearestMarker at h
    cases e : nearestMarker x higher rest with
    | none =>
      rw [e] at h
      cases h
      rw [nearestMarker_eq_none e]
      exact ⟨List.mem_singleton_self _, List.forall_mem_singleton.mpr (self _)⟩
    | some n =>
      obtain ⟨mem, nearest⟩ := ih e
      rw [e] at h
      dsimp only at h
      split_ifs at h with nearer farther side
      · cases h
        refine ⟨List.mem_cons_self .., List.forall_mem_cons.mpr ⟨self _, fun k hk => ?_⟩⟩
        have := (nearest k hk).1
        exact ⟨by omega, fun eq => by omega⟩
      · cases h
        exact ⟨List.mem_cons_of_mem _ mem, List.forall_mem_cons.mpr ⟨⟨by omega, fun eq => by omega⟩, nearest⟩⟩
      · cases h
        exact ⟨List.mem_cons_of_mem _ mem, List.forall_mem_cons.mpr ⟨⟨by omega, fun _ _ => side⟩, nearest⟩⟩
      · cases h
        refine ⟨List.mem_cons_self .., List.forall_mem_cons.mpr ⟨self _, fun k hk => ⟨?_, fun eq ne => ?_⟩⟩⟩
        · have := (nearest k hk).1
          omega
        · rcases eq_or_ne n.position a.position with same | apart
          · rw [← same]
            exact (nearest k hk).2 (by omega) (by omega)
          · rw [show k.position = n.position by omega]
            cases higher <;> simp at side ⊢ <;> omega

/-! ### The marker chosen -/

theorem mem_detectionCandidates {s : State} {m : Marker} :
    m ∈ detectionCandidates s
      ↔ m ∈ s.route.markers ∧ (m.position - s.odo.c).natAbs ≤ s.odo.settings.captureWindow := by
  unfold detectionCandidates
  rw [List.mem_filter, decide_eq_true_eq]

theorem chosenMarker_eq_none (s : State) :
    chosenMarker s = none
      ↔ ∀ m ∈ s.route.markers, s.odo.settings.captureWindow < (m.position - s.odo.c).natAbs := by
  have empty : chosenMarker s = none ↔ detectionCandidates s = [] :=
    ⟨nearestMarker_eq_none, fun e => by rw [chosenMarker, e]; rfl⟩
  rw [empty, List.eq_nil_iff_forall_not_mem]
  simp only [mem_detectionCandidates, not_and, not_le]

theorem chosenMarker_spec {s : State} {m : Marker} (h : chosenMarker s = some m) :
    m ∈ s.route.markers ∧ (m.position - s.odo.c).natAbs ≤ s.odo.settings.captureWindow
      ∧ NearestIn s.odo.c (s.run.params.direction == .up) s.route.markers m := by
  obtain ⟨mem, nearest⟩ := nearestMarker_spec h
  obtain ⟨listed, within⟩ := mem_detectionCandidates.mp mem
  refine ⟨listed, within, fun n hn => ?_⟩
  rcases Nat.lt_or_ge s.odo.settings.captureWindow (n.position - s.odo.c).natAbs with beyond | near
  · exact ⟨by omega, fun eq => by omega⟩
  · exact nearest n (mem_detectionCandidates.mpr ⟨hn, near⟩)

/-! ### Detections -/

/-- The state in which a detection is taken (R72). -/
def detectionTaken (s : State) : State := s.withOdo { s.odo with taken := inc32 s.odo.taken, debounce := some 0 }

theorem inSurvey_iff (r : RunState) : inSurvey r = true ↔ r = .running ∨ r = .draining := by
  cases r <;> simp [inSurvey]

theorem isDebounced_eq_false {t : Option Nat} : isDebounced t = false ↔ ∀ n, t = some n → 5000 ≤ n := by
  cases t <;> simp [isDebounced]

section
variable {s : State}

theorem detectMarker_outside (h : ¬(s.run.runState = .running ∨ s.run.runState = .draining)) :
    detectMarker s = s.withOdo { s.odo with ignored := inc32 s.odo.ignored } := by
  rw [← inSurvey_iff, Bool.not_eq_true] at h
  unfold detectMarker
  rw [h]
  rfl

theorem detectMarker_debounced (survey : s.run.runState = .running ∨ s.run.runState = .draining) {n : Nat}
    (travelled : s.odo.debounce = some n) (short : n < 5000) :
    detectMarker s = s.withOdo { s.odo with debounced := inc32 s.odo.debounced } := by
  unfold detectMarker
  dsimp only
  rw [(inSurvey_iff _).mpr survey, travelled]
  exact if_pos (decide_eq_true short)

theorem detectMarker_taken (survey : s.run.runState = .running ∨ s.run.runState = .draining)
    (travelled : ∀ n, s.odo.debounce = some n → 5000 ≤ n) : detectMarker s = searchMarkers (detectionTaken s) := by
  unfold detectMarker
  dsimp only
  rw [(inSurvey_iff _).mpr survey, isDebounced_eq_false.mpr travelled]
  rfl

theorem searchMarkers_unknown (h : chosenMarker s = none) :
    searchMarkers s = raiseSoft .odometry (.unknownMarker s.odo.settings.captureWindow)
      (s.withCounters { s.run.counters with markersUnknown := inc32 s.run.counters.markersUnknown }) := by
  unfold searchMarkers
  rw [h]

theorem searchMarkers_repeat {m : Marker} (h : chosenMarker s = some m) (seen : m.status ≠ .unseen) :
    searchMarkers s = raiseSoft .odometry (.repeatMarker m.position m.label m.status) s := by
  unfold searchMarkers
  rw [h]
  dsimp only
  split
  case h_1 e => exact absurd e seen
  case h_2 e => rw [e]
  case h_3 e => rw [e]

theorem searchMarkers_match {m : Marker} (h : chosenMarker s = some m) (unseen : m.status = .unseen) :
    searchMarkers s = matchMarker m s := by
  unfold searchMarkers
  rw [h]
  dsimp only
  rw [unseen]

end

/-- Settles O20: the three outcomes of R72, and the marker that R73 chooses. -/
theorem markerDetected : Obligations.MarkerDetected := by
  refine ⟨fun s => ⟨fun outside => ?_, fun n survey travelled short => ?_, fun survey travelled far => ?_,
    fun m survey travelled chosen seen => ?_⟩, fun s => ⟨chosenMarker_eq_none s, fun m chosen => ?_⟩⟩
  · exact congrArg (fun t => Host.Outcome.next (endEvent t)) (detectMarker_outside outside)
  · exact congrArg (fun t => Host.Outcome.next (endEvent t)) (detectMarker_debounced survey travelled short)
  · have found := searchMarkers_unknown (s := detectionTaken s) ((chosenMarker_eq_none s).mpr far)
    exact congrArg (fun t => Host.Outcome.next (endEvent t)) ((detectMarker_taken survey travelled).trans found)
  · have found := searchMarkers_repeat (s := detectionTaken s) chosen seen
    exact congrArg (fun t => Host.Outcome.next (endEvent t)) ((detectMarker_taken survey travelled).trans found)
  · obtain ⟨listed, within, nearest⟩ := chosenMarker_spec chosen
    refine ⟨listed, within, fun n hn => ⟨(nearest n hn).1, fun eq ne => ?_⟩⟩
    have side := (nearest n hn).2 eq ne
    split_ifs with up
    · rw [up] at side
      exact of_decide_eq_true side
    · rw [beq_eq_false_iff_ne.mpr up, decide_eq_false_iff_not] at side
      omega

/-! ### Recalibration -/

/-- The Odometry Unit is no part of an EVENT record but for C. -/
theorem offerEvent_withOdo (e : EventRecord) (o : Odometry) (s : State) :
    offerEvent e (s.withOdo o) = (offerEvent e s).withOdo o := by
  unfold offerEvent
  rw [State.withOdo_queue]
  split_ifs <;> rfl

theorem raiseSoft_withOdo (source : Source) (detail : EventDetail) {o : Odometry} {s : State} (c : o.c = s.odo.c) :
    raiseSoft source detail (s.withOdo o) = (raiseSoft source detail s).withOdo o := by
  have made : makeEvent (s.withOdo o) source detail = makeEvent s source detail :=
    congrArg (fun c => (⟨source, s.run.timebase, c, detail⟩ : EventRecord)) c
  unfold raiseSoft
  dsimp only
  rw [made, offerEvent_withOdo]
  rfl

theorem candidateGood_iff (scale candidate : Nat) :
    candidateGood scale candidate = true
      ↔ candidate ≤ scale + scale * 2 / 100 ∧ scale ≤ candidate + scale * 2 / 100 ∧ 32768 ≤ candidate ∧ candidate ≤ 1310720 := by
  unfold candidateGood
  simp only [Bool.and_eq_true, decide_eq_true_eq]
  omega

/-- The state of a match before the recalibration is judged (R74). -/
def markerTaken (m : Marker) (s : State) : State :=
  ((s.withOdo { s.odo with r := clampAbs s.odo.settings.captureWindow (s.odo.r + (m.position - s.odo.c)) }
    ).withRoute { s.route with markers := setMarkerStatus m.position .matched s.route.markers }
    ).withCounters { s.run.counters with markersMatched := inc32 s.run.counters.markersMatched }

/-- What a match does after the recalibration (R74). -/
def matchNoted (m : Marker) (s : State) : State :=
  s.withOdo { s.odo with lastMatched := some ⟨m.position, m.label⟩, u := 0 }

theorem raiseSoft_matchNoted (m : Marker) (source : Source) (detail : EventDetail) (s : State) :
    matchNoted m (raiseSoft source detail s) = raiseSoft source detail (matchNoted m s) := by
  unfold matchNoted
  rw [raiseSoft_odo]
  exact (raiseSoft_withOdo source detail (by rfl)).symm

theorem offerEvent_matchNoted (m : Marker) (e : EventRecord) (s : State) :
    matchNoted m (offerEvent e s) = offerEvent e (matchNoted m s) := by
  unfold matchNoted
  rw [offerEvent_withOdo, offerEvent_odo]

section
variable {s : State} {m : Marker}

theorem judgeRecalibration_none
    (h : s.odo.settings.recalEnable = false ∨ s.odo.lastMatched = none
      ∨ ∃ prev, s.odo.lastMatched = some prev ∧ (m.position - prev.position).natAbs < s.odo.settings.recalBaseline) :
    judgeRecalibration m s = s := by
  unfold judgeRecalibration
  split
  · rfl
  · rename_i last known
    refine if_neg fun judged => ?_
    rw [Bool.and_eq_true, decide_eq_true_eq] at judged
    rcases h with off | unknown | ⟨prev, at_prev, short⟩
    · rw [off] at judged
      exact Bool.false_ne_true judged.1
    · rw [known] at unknown
      cases unknown
    · obtain rfl := Option.some.inj (at_prev.symm.trans known)
      exact absurd judged.2 (by omega)

theorem judgeRecalibration_some {prev : MarkerRef} (enabled : s.odo.settings.recalEnable = true)
    (known : s.odo.lastMatched = some prev)
    (baseline : s.odo.settings.recalBaseline ≤ (m.position - prev.position).natAbs) :
    judgeRecalibration m s = recalibrate m.label (m.position - prev.position).natAbs s := by
  unfold judgeRecalibration
  rw [known]
  dsimp only
  rw [enabled, decide_eq_true baseline]
  rfl

variable {label delta : Nat}

theorem recalibrate_backward (h : s.odo.u ≤ 0) :
    recalibrate label delta s
      = raiseSoft .odometry (.recalRefused label delta s.odo.u s.odo.settings.scaleA s.odo.settings.scaleB none) s := if_pos h

theorem recalibrate_good (forward : 0 < s.odo.u)
    (goodA : candidateGood s.odo.settings.scaleA (candidateScale s.odo.settings.scaleA delta s.odo.u) = true)
    (goodB : candidateGood s.odo.settings.scaleB (candidateScale s.odo.settings.scaleB delta s.odo.u) = true) :
    recalibrate label delta s
      = offerEvent (makeEvent s .odometry (.recalibrated label delta s.odo.u s.odo.settings.scaleA s.odo.settings.scaleB
          (candidateScale s.odo.settings.scaleA delta s.odo.u) (candidateScale s.odo.settings.scaleB delta s.odo.u)))
        (s.withOdo { s.odo with settings := { s.odo.settings with
          scaleA := candidateScale s.odo.settings.scaleA delta s.odo.u
          scaleB := candidateScale s.odo.settings.scaleB delta s.odo.u } }) := by
  unfold recalibrate
  dsimp only
  rw [if_neg (not_le.mpr forward), goodA, goodB]
  rfl

theorem recalibrate_bad (forward : 0 < s.odo.u)
    (bad : ¬(candidateGood s.odo.settings.scaleA (candidateScale s.odo.settings.scaleA delta s.odo.u) = true
      ∧ candidateGood s.odo.settings.scaleB (candidateScale s.odo.settings.scaleB delta s.odo.u) = true)) :
    recalibrate label delta s
      = raiseSoft .odometry (.recalRefused label delta s.odo.u s.odo.settings.scaleA s.odo.settings.scaleB
          (some (candidateScale s.odo.settings.scaleA delta s.odo.u, candidateScale s.odo.settings.scaleB delta s.odo.u))) s := by
  unfold recalibrate
  dsimp only
  rw [if_neg (not_le.mpr forward)]
  exact if_neg fun both => bad ((Bool.and_eq_true _ _).mp both)

end

/-- A taken detection that matches the marker chosen. -/
theorem exec_markerDetection_match {s : State} {m : Marker} (survey : s.run.runState = .running ∨ s.run.runState = .draining)
    (travelled : ∀ n, s.odo.debounce = some n → 5000 ≤ n) (chosen : chosenMarker s = some m) (unseen : m.status = .unseen) :
    exec .markerDetection s
      = .next (endEvent (matchNoted m (judgeRecalibration m (markerTaken m (detectionTaken s))))) :=
  congrArg (fun t => Host.Outcome.next (endEvent t))
    ((detectMarker_taken survey travelled).trans (searchMarkers_match (s := detectionTaken s) chosen unseen))

/-- Settles O21: the match, and the four outcomes of its recalibration. -/
theorem markerMatched : Obligations.MarkerMatched := by
  intro s m survey travelled chosen unseen matched
  rw [exec_markerDetection_match survey travelled chosen unseen]
  have noted : matchNoted m (markerTaken m (detectionTaken s)) = matched := rfl
  refine ⟨fun unjudged => ?_, fun prev enabled known baseline => ?_⟩
  · rw [judgeRecalibration_none (s := markerTaken m (detectionTaken s)) unjudged, noted]
  · intro delta oldA oldB newA newB good
    rw [judgeRecalibration_some (s := markerTaken m (detectionTaken s)) enabled known baseline]
    refine ⟨fun backward => ?_, fun forward goodA goodB => ?_, fun forward bad => ?_⟩
    · rw [recalibrate_backward (s := markerTaken m (detectionTaken s)) backward, raiseSoft_matchNoted, noted]
      rfl
    · rw [recalibrate_good (s := markerTaken m (detectionTaken s)) forward ((candidateGood_iff ..).mpr goodA)
        ((candidateGood_iff ..).mpr goodB), offerEvent_matchNoted]
      rfl
    · rw [recalibrate_bad (s := markerTaken m (detectionTaken s)) forward (fun both =>
        bad (both.imp (candidateGood_iff ..).mp (candidateGood_iff ..).mp)), raiseSoft_matchNoted, noted]
      rfl

end Sys2Proof.Machine

/-! The nine stages of an odometry interval (R63 to R71, R76, R77), each as what it makes of the Odometry Unit and what it
reports. -/

namespace Sys2Proof.Machine

/-! ### Stage 2: loss and restoration -/

/-- Wheel A becomes LOST (R65). -/
def losesA (o : Odometry) : Bool := decide (o.a.status = .present ∧ o.settings.lossDistance ≤ o.a.silentTravel)

/-- Wheel B becomes LOST (R65). -/
def losesB (o : Odometry) : Bool := decide (o.b.status = .present ∧ o.settings.lossDistance ≤ o.b.silentTravel)

/-- A wheel waits to be restored (R66). -/
def awaits (o : Odometry) : Bool := !losesA o && !losesB o && decide (o.a.status = .lost ∨ o.b.status = .lost)

/-- Both wheels are restored (R66). -/
def restores (agrees : Bool) (o : Odometry) : Bool := awaits o && agrees && decide (8 ≤ o.agreement + 1)

/-- The event of a wheel that becomes LOST (R65). -/
def lossReported (o : Odometry) (t : State) : State :=
  if losesA o then raiseSoft (.wheel .a) (.wheelLost o.a.silentTravel o.b.status) t
  else if losesB o then raiseSoft (.wheel .b) (.wheelLost o.b.silentTravel o.a.status) t else t

/-- The Odometry Unit with wheel A LOST and wheel B PRESENT (R65). -/
def withLostA (o : Odometry) : Odometry :=
  { o with a := { o.a with status := .lost, silentTravel := 0 }, b := { o.b with status := .present }, agreement := 0 }

/-- The Odometry Unit with wheel B LOST and wheel A PRESENT (R65). -/
def withLostB (o : Odometry) : Odometry :=
  { o with b := { o.b with status := .lost, silentTravel := 0 }, a := { o.a with status := .present }, agreement := 0 }

/-- The Odometry Unit after the judgement of loss, where one wheel at most becomes LOST (R65). -/
def lossNoted (o : Odometry) : Odometry := if losesA o then withLostA o else if losesB o then withLostB o else o

/-- The Odometry Unit after stage 2 (R65, R66). -/
def wheelsJudged (agrees : Bool) (o : Odometry) : Odometry :=
  { o with
    a := { o.a with
      status := if losesA o then .lost else if losesB o || restores agrees o then .present else o.a.status
      silentTravel := if losesA o || restores agrees o then 0 else o.a.silentTravel }
    b := { o.b with
      status := if losesB o then .lost else if losesA o || restores agrees o then .present else o.b.status
      silentTravel := if losesB o || restores agrees o then 0 else o.b.silentTravel }
    agreement :=
      if losesA o || losesB o || restores agrees o then 0
      else if awaits o then if agrees then o.agreement + 1 else 0 else o.agreement
    slipFilter := if restores agrees o then 0 else o.slipFilter
    filterMode := if restores agrees o then .normal else o.filterMode }

theorem becomesLost_eq (o : Odometry) (w : WheelRecord) :
    becomesLost o w = decide (w.status = .present ∧ o.settings.lossDistance ≤ w.silentTravel) := by
  rw [becomesLost, beq_eq_decide, Bool.decide_and]

/-- Both wheels are PRESENT. -/
def bothOn (o : Odometry) : Bool := decide (o.a.status = .present ∧ o.b.status = .present)

theorem bothPresent_eq (o : Odometry) : bothPresent o = bothOn o := by
  rw [bothPresent, bothOn, beq_eq_decide, beq_eq_decide, Bool.decide_and]

theorem intervalAgrees_eq (nA nB dA dB : Int) :
    intervalAgrees nA nB dA dB
      = decide (nA ≠ 0 ∧ nB ≠ 0 ∧ dB.natAbs ≤ 2 * dA.natAbs ∧ dA.natAbs ≤ 2 * dB.natAbs) := by
  simp only [intervalAgrees, Bool.decide_and, Bool.and_assoc]

section
variable {o : Odometry} {t : State}

theorem judgeLossA_lost (c : o.c = t.odo.c) (lost : losesA o = true) :
    judgeLossA (t.withOdo o)
      = (raiseSoft (.wheel .a) (.wheelLost o.a.silentTravel o.b.status) t).withOdo (withLostA o) :=
  (if_pos ((becomesLost_eq o o.a).trans lost)).trans
    (raiseSoft_withOdo (.wheel .a) (.wheelLost o.a.silentTravel o.b.status) (o := withLostA o) c)

theorem judgeLossA_kept (kept : losesA o = false) : judgeLossA (t.withOdo o) = t.withOdo o :=
  if_neg (Bool.eq_false_iff.mp ((becomesLost_eq o o.a).trans kept))

theorem judgeLossB_lost (c : o.c = t.odo.c) (lost : losesB o = true) :
    judgeLossB (t.withOdo o)
      = (raiseSoft (.wheel .b) (.wheelLost o.b.silentTravel o.a.status) t).withOdo (withLostB o) :=
  (if_pos ((becomesLost_eq o o.b).trans lost)).trans
    (raiseSoft_withOdo (.wheel .b) (.wheelLost o.b.silentTravel o.a.status) (o := withLostB o) c)

theorem judgeLossB_kept (kept : losesB o = false) : judgeLossB (t.withOdo o) = t.withOdo o :=
  if_neg (Bool.eq_false_iff.mp ((becomesLost_eq o o.b).trans kept))

/-- Both wheels judged for loss, where not both have been silent over the loss distance (R65). -/
theorem judgeLoss_eq (c : o.c = t.odo.c)
    (one : ¬(o.settings.lossDistance ≤ o.a.silentTravel ∧ o.settings.lossDistance ≤ o.b.silentTravel)) :
    judgeLossB (judgeLossA (t.withOdo o)) = (lossReported o t).withOdo (lossNoted o) := by
  unfold lossReported lossNoted
  cases lostA : losesA o with
  | true =>
    have short : ¬o.settings.lossDistance ≤ o.b.silentTravel := fun reached => one ⟨(of_decide_eq_true lostA).2, reached⟩
    rw [judgeLossA_lost c lostA, judgeLossB_kept (o := withLostA o) (decide_eq_false fun both => short both.2)]
    rfl
  | false =>
    rw [judgeLossA_kept lostA]
    cases lostB : losesB o with
    | true => exact judgeLossB_lost c lostB
    | false => exact judgeLossB_kept lostB

/-- The restoration after the judgement of loss: none where a wheel has become LOST, whose silence is no agreement (R66). -/
theorem restoreWheels_lossNoted {nA nB dA dB : Int}
    (one : ¬(o.settings.lossDistance ≤ o.a.silentTravel ∧ o.settings.lossDistance ≤ o.b.silentTravel))
    (silent : losesA o = true ∨ losesB o = true → intervalAgrees nA nB dA dB = false) :
    restoreWheels nA nB dA dB (lossNoted o) = wheelsJudged (intervalAgrees nA nB dA dB) o := by
  unfold restoreWheels lossNoted wheelsJudged
  cases lostA : losesA o with
  | true =>
    have lostB : losesB o = false :=
      decide_eq_false fun both => one ⟨(of_decide_eq_true (p := _ ∧ _) lostA).2, both.2⟩
    simp [withLostA, bothPresent, restores, awaits, lostA, lostB, silent (.inl lostA)]
  | false =>
    cases lostB : losesB o with
    | true => simp [withLostB, bothPresent, restores, awaits, lostA, lostB, silent (.inr lostB)]
    | false =>
      have waiting : awaits o = !bothPresent o := by
        rw [awaits, lostA, lostB, bothPresent]
        cases o.a.status <;> cases o.b.status <;> rfl
      have restoring : restores (intervalAgrees nA nB dA dB) o
          = (!bothPresent o && intervalAgrees nA nB dA dB && decide (8 ≤ o.agreement + 1)) := by rw [restores, waiting]
      simp only [Bool.false_eq_true, if_false, Bool.false_or, restoring, waiting]
      cases bothPresent o with
      | true => rfl
      | false =>
        cases intervalAgrees nA nB dA dB with
        | false => rfl
        | true =>
          rcases Nat.lt_or_ge (o.agreement + 1) 8 with few | enough
          · simp [Nat.not_le.mpr few]
          · simp [enough]

end

/-! ### Stage 3: the slip filter -/

/-- The slip filter after an interval (R67). -/
def filterNext (dA dB : Int) (o : Odometry) : Nat :=
  if bothOn o then slipAfter o.slipFilter (dA - dB).natAbs o.settings.weight else o.slipFilter

/-- The slip filter enters SLIP (R67). -/
def entersSlip (dA dB : Int) (o : Odometry) : Bool :=
  bothOn o && decide (o.filterMode = .normal ∧ 256 * o.settings.slipThreshold ≤ filterNext dA dB o)

/-- The slip filter leaves SLIP (R67). -/
def leavesSlip (dA dB : Int) (o : Odometry) : Bool :=
  bothOn o && decide (o.filterMode = .slip ∧ filterNext dA dB o < 128 * o.settings.slipThreshold)

/-- The Odometry Unit after stage 3 (R67). -/
def slipJudged (dA dB : Int) (o : Odometry) : Odometry :=
  { o with
    slipFilter := filterNext dA dB o
    filterMode := if entersSlip dA dB o then .slip else if leavesSlip dA dB o then .normal else o.filterMode }

/-- The event of the slip filter that enters SLIP (R67). -/
def slipReported (dA dB : Int) (o : Odometry) (t : State) : State :=
  if entersSlip dA dB o then raiseSoft .odometry (.slip (filterNext dA dB o) (dA - dB).natAbs dA dB) t else t

theorem filterSlip_withOdo {dA dB : Int} {o : Odometry} {t : State} (c : o.c = t.odo.c) :
    filterSlip dA dB (t.withOdo o) = (slipReported dA dB o t).withOdo (slipJudged dA dB o) := by
  unfold filterSlip slipReported slipJudged entersSlip leavesSlip filterNext
  dsimp only [State.withOdo_odo, State.withOdo_withOdo]
  rw [bothPresent_eq]
  cases bothOn o with
  | false => rfl
  | true =>
    cases mode : o.filterMode with
    | normal =>
      by_cases enters : 256 * o.settings.slipThreshold ≤ slipAfter o.slipFilter (dA - dB).natAbs o.settings.weight
      · simpa [enters] using raiseSoft_withOdo _ _ (o := { o with
          slipFilter := slipAfter o.slipFilter (dA - dB).natAbs o.settings.weight, filterMode := .slip }) c
      · simp [enters]
    | slip =>
      by_cases leaves : slipAfter o.slipFilter (dA - dB).natAbs o.settings.weight < 128 * o.settings.slipThreshold
      · simp [leaves]
      · simp [leaves]

/-! ### Stages 4 to 7 -/

theorem stepOf_eq (dA dB : Int) (o : Odometry) :
    stepOf dA dB o
      = if o.a.status = .lost then dB else if o.b.status = .lost then dA
        else if o.filterMode = .normal then rnd (dA + dB) 2 else if dA.natAbs < dB.natAbs then dB else dA := by
  unfold stepOf
  cases o.a.status with
  | lost => rfl
  | present =>
    cases o.b.status with
    | lost => rfl
    | present => cases o.filterMode <;> rfl

theorem modeOf_eq (o : Odometry) :
    modeOf o = if bothOn o then if o.filterMode = .normal then .normal else .slip else .single := by
  unfold modeOf
  rw [bothPresent_eq]
  cases o.filterMode <;> rfl

theorem advance_eq (d : Direction) (c step : Int) :
    advance d c step = satChainage (if decide (d = .up) then c + step else c - step) := by
  cases d <;> rfl

/-- H is where C passes it, else where it was (R70). -/
theorem farther_eq (d : Direction) (c h : Int) :
    (if beyond d c h then c else h) = if decide (d = .up) then max c h else min c h := by
  cases d <;> simp [beyond, max_def, min_def] <;> split_ifs <;> omega

/-- Stages 5 and 6, with the correction slewed in and the two chainages they give (R69, R70). -/
theorem moveChainage_eq (d : Direction) (step : Int) (o : Odometry) {applied c h : Int}
    (happlied : clampAbs o.settings.slewLimit o.r = applied)
    (hc : satChainage (satChainage (if decide (d = .up) then o.c + step else o.c - step) + applied) = c)
    (hh : satChainage (o.h + applied) = h) :
    moveChainage d step o
      = { o with
          r := o.r - applied, c := c, h := if decide (d = .up) then max c h else min c h
          u := satChainage (o.u + step), debounce := debounceAfter o.debounce step } := by
  subst happlied hc hh
  unfold moveChainage
  dsimp only
  rw [farther_eq, advance_eq]

/-- C has fallen behind H by more than the tolerance (R71). -/
def fallsBehind (o : Odometry) : Bool :=
  decide (o.reversed = false ∧ o.settings.reversalTolerance < (o.h - o.c).natAbs)

/-- The event of a reversal (R71). -/
def reversalReported (o : Odometry) (t : State) : State :=
  if fallsBehind o then raiseSoft .odometry (.reversal o.h (o.h - o.c).natAbs) t else t

/-- The Odometry Unit after stage 7 (R71). -/
def reversalJudged (o : Odometry) : Odometry :=
  { o with reversed := if fallsBehind o then true else if o.c = o.h then false else o.reversed }

theorem checkReversal_eq {s : State} (ahead : beyond s.run.params.direction s.odo.c s.odo.h = false) :
    checkReversal s = (reversalReported s.odo s).withOdo (reversalJudged s.odo) := by
  have condition : (beyond s.run.params.direction s.odo.h s.odo.c
      && decide (s.odo.settings.reversalTolerance < (s.odo.h - s.odo.c).natAbs) && !s.odo.reversed) = fallsBehind s.odo := by
    unfold fallsBehind
    cases s.odo.reversed with
    | true => simp
    | false =>
      by_cases far : s.odo.settings.reversalTolerance < (s.odo.h - s.odo.c).natAbs
      · have behind : beyond s.run.params.direction s.odo.h s.odo.c = true := by
          cases e : s.run.params.direction <;> simp [e, beyond] at ahead ⊢ <;> omega
        simp [far, behind]
      · simp [far]
  unfold checkReversal
  dsimp only
  rw [condition]
  unfold reversalReported reversalJudged
  cases fallsBehind s.odo with
  | true => exact raiseSoft_withOdo _ _ rfl
  | false =>
    by_cases level : s.odo.c = s.odo.h
    · simp [level]
    · simp only [level, if_false]
      rfl

/-! ### Stage 9: the camera line -/

theorem cameraPulses_eq (p : RunParams) (o : Odometry) :
    cameraPulses p o
      = if o.settings.cameraPitch = 0 then 0
        else ((if decide (p.direction = .up) then o.h - p.origin else p.origin - o.h) / o.settings.cameraPitch
          - o.cameraNext + 1).toNat := by
  unfold cameraPulses reachedIndex
  cases p.direction <;> rfl

/-- The camera line gives its pulses and is idle after them (R77). -/
theorem triggerCamera_eq (p : RunParams) {o : Odometry} (idle : o.camera.level = .idle) :
    triggerCamera p o
      = { o with
          camera := ⟨.idle, o.camera.pulses + cameraPulses p o⟩
          cameraNext := o.cameraNext + cameraPulses p o
          cameraFrames := (o.cameraFrames + cameraPulses p o) % 4294967296 } := by
  have pulsed : pulseTimes (cameraPulses p o) o.camera = ⟨.idle, o.camera.pulses + cameraPulses p o⟩ := by
    rw [show o.camera = ⟨.idle, o.camera.pulses⟩ by rw [← idle], pulseTimes_idle]
  unfold triggerCamera
  dsimp only
  rw [pulsed]
  rfl

/-! ### Stage 8: the markers missed -/

/-- A marker counted MISSED, before its event (R76). -/
def markerMissed (m : Marker) (s : State) : State :=
  (s.withRoute { s.route with markers := setMarkerStatus m.position .missed s.route.markers }
    ).withCounters { s.run.counters with markersMissed := inc32 s.run.counters.markersMissed }

theorem missMarker_withOdo {o : Odometry} {s : State} (m : Marker) (c : o.c = s.odo.c) (h : o.h = s.odo.h) :
    missMarker (s.withOdo o) m = (missMarker s m).withOdo o := by
  unfold missMarker
  rw [State.withOdo_odo, h]
  exact raiseSoft_withOdo _ _ (s := markerMissed m s) c

theorem scanMissed_withOdo {o : Odometry} {s : State} (h0 : Int) (c : o.c = s.odo.c) (h : o.h = s.odo.h)
    (settings : o.settings = s.odo.settings) : scanMissed h0 (s.withOdo o) = (scanMissed h0 s).withOdo o := by
  have same : crossedMarkers (s.withOdo o) h0 = crossedMarkers s h0 := by
    unfold crossedMarkers
    dsimp only [State.withOdo_odo, State.withOdo_run, State.withOdo_route]
    rw [h, settings]
  unfold scanMissed
  rw [same]
  clear same
  generalize crossedMarkers s h0 = ms
  induction ms generalizing s with
  | nil => rfl
  | cons m rest ih =>
    rw [List.foldl_cons, List.foldl_cons, missMarker_withOdo m c h]
    refine ih ?_ ?_ ?_ <;> rwa [missMarker_odo]

end Sys2Proof.Machine

/-! ODOMETRY_INTERVAL_EXPIRY (R62, R63): the nine stages one after another. -/

namespace Sys2Proof.Machine

/-! ### The Odometry Unit stage by stage -/

/-- The travel of wheel A over the interval that ends (R64). -/
def travelA (o : Odometry) : Int := wheelTravel o.a.remainder o.a.pending o.settings.scaleA

/-- The travel of wheel B over the interval that ends (R64). -/
def travelB (o : Odometry) : Int := wheelTravel o.b.remainder o.b.pending o.settings.scaleB

/-- The counts taken, and stage 1 (R62, R64). -/
def travelled (o : Odometry) : Odometry := travelWheels o.a.pending o.b.pending (travelA o) (travelB o) (takeCounts o)

/-- The interval that ends agrees (R66). -/
def agreesNow (o : Odometry) : Bool :=
  decide (o.a.pending ≠ 0 ∧ o.b.pending ≠ 0 ∧ (travelB o).natAbs ≤ 2 * (travelA o).natAbs
    ∧ (travelA o).natAbs ≤ 2 * (travelB o).natAbs)

/-- The Odometry Unit after stage 2. -/
def afterLoss (o : Odometry) : Odometry := wheelsJudged (agreesNow o) (travelled o)

/-- The Odometry Unit after stage 3. -/
def afterSlip (o : Odometry) : Odometry := slipJudged (travelA o) (travelB o) (afterLoss o)

/-- The Odometry Unit after stage 6. -/
def afterMove (d : Direction) (o : Odometry) : Odometry :=
  moveChainage d (stepOf (travelA o) (travelB o) (afterSlip o)) { afterSlip o with mode := modeOf (afterSlip o) }

/-- The Odometry Unit after stage 9. -/
def afterInterval (p : RunParams) (o : Odometry) : Odometry := triggerCamera p (reversalJudged (afterMove p.direction o))

/-- The events of stages 2 and 3. -/
def wheelsReported (s : State) : State :=
  slipReported (travelA s.odo) (travelB s.odo) (afterLoss s.odo) (lossReported (travelled s.odo) s)

@[simp] theorem lossReported_odo (o : Odometry) (t : State) : (lossReported o t).odo = t.odo := by
  unfold lossReported
  split_ifs <;> simp

@[simp] theorem reversalReported_odo (o : Odometry) (t : State) : (reversalReported o t).odo = t.odo := by
  unfold reversalReported
  split_ifs <;> simp

theorem lossReported_reported (o : Odometry) (t : State) : Reported t (lossReported o t) := by
  unfold lossReported
  split_ifs
  exacts [raiseSoft_reported (.refl t), raiseSoft_reported (.refl t), .refl t]

theorem slipReported_reported {dA dB : Int} {o : Odometry} {s t : State} (m : Reported s t) :
    Reported s (slipReported dA dB o t) := by
  unfold slipReported
  split_ifs
  exacts [raiseSoft_reported m, m]

theorem wheelsReported_reported (s : State) : Reported s (wheelsReported s) := slipReported_reported (lossReported_reported _ s)

theorem reversalReported_reported {o : Odometry} {s t : State} (m : Reported s t) : Reported s (reversalReported o t) := by
  unfold reversalReported
  split_ifs
  exacts [raiseSoft_reported m, m]

theorem reversalReported_withOdo {o o' : Odometry} {t : State} (c : o'.c = t.odo.c) :
    reversalReported o (t.withOdo o') = (reversalReported o t).withOdo o' := by
  unfold reversalReported
  split_ifs
  exacts [raiseSoft_withOdo _ _ c, rfl]

section
variable {s : State}

/-- Not both wheels have been silent over the loss distance when the interval ends. -/
def oneSilent (o : Odometry) : Prop :=
  ¬((travelled o).settings.lossDistance ≤ (travelled o).a.silentTravel
    ∧ (travelled o).settings.lossDistance ≤ (travelled o).b.silentTravel)

theorem lossJudged_taken (one : oneSilent s.odo) :
    lossJudged s.odo.a.pending s.odo.b.pending (s.withOdo (takeCounts s.odo))
      = (lossReported (travelled s.odo) s).withOdo (lossNoted (travelled s.odo)) :=
  judgeLoss_eq (o := travelled s.odo) (t := s) rfl one

/-- A wheel that becomes LOST has given no counts. -/
theorem agreesNow_of_lost {o : Odometry} (positive : 1 ≤ o.settings.lossDistance)
    (lost : losesA (travelled o) = true ∨ losesB (travelled o) = true) : agreesNow o = false := by
  have still {n other : Int} {silent : Nat} (reached : o.settings.lossDistance ≤ silentAfter silent n other) : n = 0 := by
    unfold silentAfter at reached
    split_ifs at reached with turned
    · omega
    · exact not_not.mp turned
  refine decide_eq_false ?_
  rintro ⟨turnedA, turnedB, -, -⟩
  rcases lost with lostA | lostB
  · exact turnedA (still (of_decide_eq_true lostA).2)
  · exact turnedB (still (of_decide_eq_true lostB).2)

theorem slipFiltered_taken (one : oneSilent s.odo) (positive : 1 ≤ s.odo.settings.lossDistance) :
    slipFiltered s.odo.a.pending s.odo.b.pending (s.withOdo (takeCounts s.odo))
      = (wheelsReported s).withOdo (afterSlip s.odo) := by
  have restored : restoreWheels s.odo.a.pending s.odo.b.pending (travelA s.odo) (travelB s.odo) (lossNoted (travelled s.odo))
      = afterLoss s.odo := by
    have agrees : intervalAgrees s.odo.a.pending s.odo.b.pending (travelA s.odo) (travelB s.odo) = agreesNow s.odo :=
      intervalAgrees_eq _ _ _ _
    rw [restoreWheels_lossNoted one fun lost => agrees.trans (agreesNow_of_lost positive lost), agrees]
    rfl
  unfold slipFiltered
  rw [lossJudged_taken one]
  show filterSlip (travelA s.odo) (travelB s.odo) ((lossReported (travelled s.odo) s).withOdo
    (restoreWheels s.odo.a.pending s.odo.b.pending (travelA s.odo) (travelB s.odo) (lossNoted (travelled s.odo)))) = _
  rw [restored]
  exact filterSlip_withOdo (by rw [lossReported_odo]; rfl)

theorem chainageMoved_taken (one : oneSilent s.odo) (positive : 1 ≤ s.odo.settings.lossDistance) :
    chainageMoved s.odo.a.pending s.odo.b.pending (s.withOdo (takeCounts s.odo))
      = (wheelsReported s).withOdo (afterMove s.run.params.direction s.odo) := by
  unfold chainageMoved
  rw [slipFiltered_taken one positive]
  show (wheelsReported s).withOdo (afterMove (wheelsReported s).run.params.direction s.odo) = _
  rw [(wheelsReported_reported s).params]

/-- The state that stage 8 meets, with the Odometry Unit as stage 9 leaves it. -/
def intervalMet (s : State) : State :=
  reversalReported (afterMove s.run.params.direction s.odo) ((wheelsReported s).withOdo (afterInterval s.run.params s.odo))

theorem intervalMet_odo (s : State) : (intervalMet s).odo = afterInterval s.run.params s.odo := reversalReported_odo _ _

theorem intervalMet_params (s : State) : (intervalMet s).run.params = s.run.params :=
  (reversalReported_reported (withOdo_reported (wheelsReported_reported s))).params

@[simp] theorem lossReported_route (o : Odometry) (t : State) : (lossReported o t).route = t.route := by
  unfold lossReported
  split_ifs <;> simp

@[simp] theorem slipReported_route (dA dB : Int) (o : Odometry) (t : State) : (slipReported dA dB o t).route = t.route := by
  unfold slipReported
  split_ifs <;> simp

@[simp] theorem reversalReported_route (o : Odometry) (t : State) : (reversalReported o t).route = t.route := by
  unfold reversalReported
  split_ifs <;> simp

theorem intervalMet_route (s : State) : (intervalMet s).route = s.route := by simp [intervalMet, wheelsReported]

/-- The nine stages, where one wheel at most is silent over the loss distance. -/
theorem integrate_taken (one : oneSilent s.odo) (positive : 1 ≤ s.odo.settings.lossDistance) :
    integrate s.odo.a.pending s.odo.b.pending (s.withOdo (takeCounts s.odo)) = scanMissed s.odo.h (intervalMet s) := by
  let o6 := afterMove s.run.params.direction s.odo
  let u := reversalReported o6 ((wheelsReported s).withOdo o6)
  have params : ((wheelsReported s).withOdo o6).run.params = s.run.params := (wheelsReported_reported s).params
  have base : u.odo = o6 := reversalReported_odo _ _
  have turned : checkReversal ((wheelsReported s).withOdo o6) = u.withOdo (reversalJudged o6) :=
    checkReversal_eq (by rw [params]; exact moveChainage_ahead _ _ _)
  have scanned {o : Odometry} (c : o.c = o6.c) (h : o.h = o6.h) (settings : o.settings = o6.settings) :
      scanMissed s.odo.h (u.withOdo o) = (scanMissed s.odo.h u).withOdo o :=
    scanMissed_withOdo _ (by rw [base, c]) (by rw [base, h]) (by rw [base, settings])
  have direction : (scanMissed s.odo.h u).run.params = s.run.params :=
    (foldl_missMarker_reported (reversalReported_reported (withOdo_reported (wheelsReported_reported s)))).params
  have met : intervalMet s = u.withOdo (afterInterval s.run.params s.odo) :=
    reversalReported_withOdo (t := (wheelsReported s).withOdo o6) rfl
  have seen : scanMissed (s.withOdo (takeCounts s.odo)).odo.h (u.withOdo (reversalJudged o6))
      = (scanMissed s.odo.h u).withOdo (reversalJudged o6) := scanned rfl rfl rfl
  rw [integrate_eq, chainageMoved_taken one positive, turned, seen, met,
    scanned (o := afterInterval s.run.params s.odo) rfl rfl rfl]
  show (scanMissed s.odo.h u).withOdo (triggerCamera (scanMissed s.odo.h u).run.params (reversalJudged o6)) = _
  rw [direction]
  rfl

end

/-! ### The command -/

/-- The markers missed, one after another, with H as it stands (R76). -/
def missAt (h : Int) (t : State) (k : Marker) : State :=
  raiseSoft .odometry (.missedMarker k.position k.label h) (markerMissed k t)

theorem foldl_missAt {h : Int} {s : State} (ms : List Marker) (at_h : s.odo.h = h) :
    ms.foldl missMarker s = ms.foldl (missAt h) s := by
  induction ms generalizing s with
  | nil => rfl
  | cons k rest ih =>
    have first : missMarker s k = missAt h s k := by rw [← at_h]; rfl
    rw [List.foldl_cons, List.foldl_cons, ih (by rwa [missMarker_odo]), first]

/-- A marker whose threshold H crosses between `h0` and `h1` (R76). -/
def passes (d : Direction) (window : Nat) (h0 h1 : Int) (k : Marker) : Bool :=
  decide (k.status = .unseen)
    && if decide (d = .up) then decide (h0 ≤ k.position + window ∧ k.position + window < h1)
      else decide (h1 < k.position - window ∧ k.position - window ≤ h0)

theorem crossed_eq (d : Direction) (window : Nat) (h0 h1 : Int) : crossed d window h0 h1 = passes d window h0 h1 := by
  funext k
  unfold crossed passes
  rw [beq_eq_decide]
  cases d <;> simp

theorem crossedMarkers_eq (s : State) (h0 : Int) :
    crossedMarkers s h0
      = if decide (s.run.params.direction = .up) then
          s.route.markers.filter (passes s.run.params.direction s.odo.settings.captureWindow h0 s.odo.h)
        else (s.route.markers.filter (passes s.run.params.direction s.odo.settings.captureWindow h0 s.odo.h)).reverse := by
  unfold crossedMarkers
  dsimp only
  rw [crossed_eq]
  cases s.run.params.direction <;> rfl

theorem exec_interval_early {s : State} (early : s.odo.interval ≠ some 0) : exec .odometryIntervalExpiry s = .next s :=
  congrArg Host.Outcome.next (if_neg (by simpa [timerExpires] using early))

theorem exec_interval_due {s : State} (due : s.odo.interval = some 0) :
    exec .odometryIntervalExpiry s = .next (endEvent (intervalExpires s)) :=
  congrArg Host.Outcome.next (if_pos (by rw [due]; rfl))

theorem intervalExpires_survey {s : State} (survey : s.run.runState = .running ∨ s.run.runState = .draining) :
    intervalExpires s = integrate s.odo.a.pending s.odo.b.pending (s.withOdo (takeCounts s.odo)) := by
  unfold intervalExpires
  rcases survey with e | e <;> rw [e]

/-- Outside a survey the counts are discarded, in ARMED with the remainders (R62). -/
theorem intervalExpires_rest {s : State} (notRunning : s.run.runState ≠ .running) (notDraining : s.run.runState ≠ .draining) :
    intervalExpires s
      = s.withOdo (if s.run.runState = .armed then clearRemainders (takeCounts s.odo) else takeCounts s.odo) := by
  unfold intervalExpires
  cases e : s.run.runState with
  | running => exact absurd e notRunning
  | draining => exact absurd e notDraining
  | _ => rfl

/-- A wheel that turns is not silent, and two that do not have not travelled (R64, R65). -/
theorem oneSilent_of_law {o : Odometry} (law : wheelLaw o) (positive : 1 ≤ o.settings.lossDistance) : oneSilent o := by
  obtain ⟨⟨-, -, -, -, -, silent⟩, -⟩ := travelWheels_lineLaws (o := { o with camera := ⟨.idle, 0⟩ })
    o.a.pending o.b.pending ⟨law, rfl⟩
  have still : (travelled o).a.silentTravel = 0 ∨ (travelled o).b.silentTravel = 0 := silent
  rintro ⟨reachedA, reachedB⟩
  have distance : (travelled o).settings.lossDistance = o.settings.lossDistance := rfl
  omega

/-- The Odometry Unit with its counts taken and the wheels, the agreement run and the slip filter as stages 1 to 3 set them. -/
def wheelsSet (o : Odometry) (statusA statusB : WheelStatus) (silentA silentB agreement f : Nat) (m : FilterMode) : Odometry :=
  { o with
    a := { o.a with
      pending := 0, remainder := wheelRemainder o.a.remainder o.a.pending o.settings.scaleA, status := statusA
      silentTravel := silentA }
    b := { o.b with
      pending := 0, remainder := wheelRemainder o.b.remainder o.b.pending o.settings.scaleB, status := statusB
      silentTravel := silentB }
    agreement := agreement
    slipFilter := f
    filterMode := m
    interval := startMs o.settings.interval }

/-- Settles O19: the nine stages, each read off the Odometry Unit that the one before leaves. -/
theorem odometryInterval : Obligations.OdometryInterval := by
  refine ⟨fun s => ⟨exec_interval_early, fun due notRunning notDraining => ?_⟩, fun s => ?_⟩
  · rw [exec_interval_due due, intervalExpires_rest notRunning notDraining]
    split_ifs <;> rfl
  · intro o x up nA nB dA dB silentA silentB lostA lostB waiting agrees restored statusA statusB agreement both f0 m0 d f
      slips settles m step mode applied c h1 h reverses crossed missed ahead pulses moved s1 s2 s3 s4 miss
    refine ⟨fun due survey positive one camera => ?_, oneSilent_of_law⟩
    have single : oneSilent s.odo := one
    have hA : losesA (travelled o) = lostA := rfl
    have hB : losesB (travelled o) = lostB := rfl
    have hAgrees : agreesNow o = agrees := rfl
    have hAwaits : awaits (travelled o) = waiting := rfl
    have hRestores : restores agrees (travelled o) = restored := rfl
    have hSilentA : (travelled o).a.silentTravel = silentA := rfl
    have hSilentB : (travelled o).b.silentTravel = silentB := rfl
    have hReported : lossReported (travelled o) s = s1 := by rw [lossReported, hA, hB, hSilentA, hSilentB]; rfl
    have hJudged : afterLoss o = wheelsSet o statusA statusB (if lostA || restored then 0 else silentA)
        (if lostB || restored then 0 else silentB) agreement f0 m0 := by
      rw [afterLoss, wheelsJudged, hAgrees, hRestores, hA, hB, hAwaits, hSilentA, hSilentB]
      rfl
    have s1_odo : s1.odo = o := by rw [← hReported, lossReported_odo]
    clear_value s1 statusA statusB agreement f0 m0 lostA lostB restored silentA silentB
    generalize hRestA : (if lostA || restored then 0 else silentA) = restA at hJudged
    generalize hRestB : (if lostB || restored then 0 else silentB) = restB at hJudged
    have hFilter : filterNext dA dB (afterLoss o) = f := by rw [hJudged]; rfl
    have hEnters : entersSlip dA dB (afterLoss o) = slips := by rw [entersSlip, hFilter, hJudged]; rfl
    have hLeaves : leavesSlip dA dB (afterLoss o) = settles := by rw [leavesSlip, hFilter, hJudged]; rfl
    have hWheels : wheelsReported s = s2 := by
      show slipReported dA dB (afterLoss o) (lossReported (travelled o) s) = s2
      rw [slipReported, hEnters, hFilter, hReported]
    have hSlip : afterSlip o = wheelsSet o statusA statusB restA restB agreement f m := by
      show slipJudged dA dB (afterLoss o) = _
      rw [slipJudged, hEnters, hFilter, hLeaves, hJudged]
      rfl
    have hStep : stepOf dA dB (afterSlip o) = step := by rw [stepOf_eq, hSlip]; rfl
    have hMode : modeOf (afterSlip o) = mode := by rw [modeOf_eq, hSlip]; rfl
    clear_value s2 f m step mode
    have hMoved : afterMove s.run.params.direction o
        = { wheelsSet o statusA statusB restA restB agreement f m with
            mode := mode, r := o.r - applied, c := c, h := h, u := satChainage (o.u + step)
            debounce := debounceAfter o.debounce step } := by
      show moveChainage _ (stepOf dA dB (afterSlip o)) _ = _
      rw [hStep, hMode, hSlip]
      exact moveChainage_eq _ _ _ rfl rfl rfl
    clear_value applied c h1 h
    have hReverses : fallsBehind (afterMove s.run.params.direction o) = reverses := by rw [hMoved]; rfl
    have hPulses : cameraPulses s.run.params (reversalJudged (afterMove s.run.params.direction o)) = pulses := by
      rw [cameraPulses_eq, hMoved]
      rfl
    have hEnded : afterInterval s.run.params o = moved := by
      have idle : (reversalJudged (afterMove s.run.params.direction o)).camera.level = .idle := camera
      rw [afterInterval, triggerCamera_eq _ idle, hPulses, reversalJudged, hReverses, hMoved]
      subst hRestA hRestB
      rfl
    have hMet : intervalMet s = s4 := by
      show reversalReported (afterMove s.run.params.direction o) ((wheelsReported s).withOdo (afterInterval s.run.params o)) = s4
      rw [reversalReported, hReverses, hEnded, hWheels, hMoved]
      rfl
    have hOdo : (intervalMet s).odo = moved := (intervalMet_odo s).trans hEnded
    have hMissed : crossedMarkers (intervalMet s) o.h = missed := by
      rw [crossedMarkers_eq, intervalMet_params, intervalMet_route, hOdo]
      rfl
    rw [exec_interval_due due, intervalExpires_survey survey, integrate_taken single positive]
    show Host.Outcome.next (endEvent ((crossedMarkers (intervalMet s) o.h).foldl missMarker (intervalMet s))) = _
    rw [foldl_missAt (h := h) _ (by rw [hOdo]), hMissed, hMet]
    rfl

end Sys2Proof.Machine
